-- ==== Sys2Proof/Word.lean ====
section
/-! DEFINITION. The word types of the U8120: a byte, a halfword (the bus width), the halfword address on
A[19:1] and MA[19:1], and the granule number (address bits 19 to 5). -/

namespace Sys2Proof

/-- One byte of memory or of a link frame. -/
abbrev Byte := BitVec 8

/-- One halfword: the width of the host bus, of every engine access and of every journal field. -/
abbrev Half := BitVec 16

/-- Address bits 19 to 1: every access is one aligned halfword (00_scope, Addresses). -/
abbrev HalfAddr := BitVec 19

/-- A granule number, address bits 19 to 5 (00_scope, Granules). -/
abbrev Granule := BitVec 15

end Sys2Proof
end

