-- ==== Sys2Proof/Syntax.lean ====
section
/-! DEFINITION. The commands of the block: one constructor of `Instr` for each row of
spec/opcode_table.json, with the operands that the row's rule gives it. -/

namespace Sys2Proof

/-- The strobes asserted with nCE at an arrival (R124): nOE, nWE, or both. -/
inductive Strobes where
  | read
  | write
  | both
  deriving DecidableEq, Repr

/-- One of the two request lines (R65). -/
inductive Line where
  | mark
  | undo
  deriving DecidableEq, Repr

/-- The steps of the part. A link command carries its parameters as sent (R170) and `crc`, the command
CRC byte as received (R171, R174). -/
inductive Instr where
  /-- RESET_ASSERT: nRST goes low (R37). -/
  | resetAssert
  /-- RESET_RELEASE: nRST goes high (R42, R107); the straps and the levels sampled at that event: the
  two request lines (R65) and whether nSS is low (R186). -/
  | resetRelease (jsel : BitVec 4) (autoUndo markHigh undoHigh nssLow : Bool)
  /-- SUPPLY_LOSS (R3). -/
  | supplyLoss
  /-- HOST_ACCESS_ARRIVE (R124): A[19:1], the strobes, the lanes enabled and D[15:0]. -/
  | hostAccessArrive (addr : HalfAddr) (strobes : Strobes) (lower upper : Bool) (data : Half)
  /-- HOST_CYCLE_END (R125). -/
  | hostCycleEnd
  /-- FORWARD_COMPLETE: the memory access of a forward completes (R136). -/
  | forwardComplete
  /-- HOLD_TIMER_EXPIRE (R134). -/
  | holdTimerExpire
  /-- ENGINE_ACCESS_COMPLETE: the engine's memory access completes (R139). -/
  | engineAccessComplete
  /-- CLEAR_SWEEP_COMPLETE (R31). -/
  | clearSweepComplete
  /-- RELABEL_SWEEP_COMPLETE (R30). -/
  | relabelSweepComplete
  /-- LINK_READ_COMPLETE: the link reader's memory read completes (R183). -/
  | linkReadComplete
  /-- LINK_READ_STATUS_DUE: the first bit of the status byte of READ SLOT or READ HEAD is due (R185). -/
  | linkReadStatusDue
  /-- MARK_REQ_EDGE: MARK_REQ goes high (R66). -/
  | markReqEdge
  /-- UNDO_REQ_EDGE: UNDO_REQ goes high (R66). -/
  | undoReqEdge
  /-- LINK_SHORT_FRAME: nSS rises before the command CRC completes (R173). -/
  | linkShortFrame
  /-- LINK_FRAME_CUT: nSS rises after the command was taken (R176). -/
  | linkFrameCut
  /-- UNKNOWN_COMMAND (R175): the code, and the byte after it, which is not compared. -/
  | unknownCommand (code next : Byte)
  /-- STATUS (R178). -/
  | status (crc : Byte)
  /-- FETCH_CAUSE (R160). -/
  | fetchCause (crc : Byte)
  /-- CLEAR_CAUSES (R161). -/
  | clearCauses (mask : Half) (crc : Byte)
  /-- SET_CAUSE_LEVEL (R158). -/
  | setCauseLevel (cause level : Byte) (crc : Byte)
  /-- SET_THRESHOLD (R158). -/
  | setThreshold (threshold : Byte) (crc : Byte)
  /-- READ_RECORD (R167). -/
  | readRecord (crc : Byte)
  /-- WRITE_REGION (R147): index, mode code, base and length in KiB. -/
  | writeRegion (index mode : Byte) (base length : Half) (crc : Byte)
  /-- READ_REGION (R154). -/
  | readRegion (index : Byte) (crc : Byte)
  /-- SET_AREA (R150): base in KiB, slot count. -/
  | setArea (base slots : Half) (crc : Byte)
  /-- SET_OPTIONS (R180). -/
  | setOptions (select holdLimit policy : Byte) (highMark : Half) (enables : Byte) (crc : Byte)
  /-- ARM (R43). -/
  | arm (crc : Byte)
  /-- DISARM (R99). -/
  | disarm (crc : Byte)
  /-- MARK (R59). -/
  | mark (label : Half) (crc : Byte)
  /-- RELEASE (R62). -/
  | release (crc : Byte)
  /-- UNDO (R72): 0 KEEP, 1 DROP. -/
  | undo (option : Byte) (crc : Byte)
  /-- COMMIT (R93). -/
  | commit (crc : Byte)
  /-- RESUME (R108): 0 without AUTO-UNDO, 1 with it. -/
  | resume (option : Byte) (crc : Byte)
  /-- READ_SLOT (R183). -/
  | readSlot (index : Half) (crc : Byte)
  /-- READ_HEAD (R184): 0 copy A, 1 copy B. -/
  | readHead (copy : Byte) (crc : Byte)
  /-- REQUEST_LINE_FALL: a request line goes low and is seen low (R65). -/
  | requestLineFall (line : Line)
  /-- NSS_RISE_AFTER_RELEASE: the first rise of nSS that was low at the release (R186). -/
  | nssRiseAfterRelease
  deriving DecidableEq, Repr

end Sys2Proof
end

