-- ==== Sys2Proof/Decode.lean ====
section
/-! DEFINITION. The bytes of a link command and back (R170, R189): `commandBytes` writes the code and the
parameters of a command, `frameBytes` adds the command CRC byte as received, `decodeFrame` reads a
command from the bytes of a frame. `decodeTableWord` is the host's question; the table gives no bits. -/

namespace Sys2Proof

/-- The byte at the odd address of a halfword, the first on the link (12_formats). -/
def highByte (h : Half) : Byte := h.extractLsb' 8 8

/-- The byte at the even address of a halfword. -/
def lowByte (h : Half) : Byte := h.extractLsb' 0 8

/-- The halfword of a high and a low byte. -/
def joinHalf (hi lo : Byte) : Half := hi ++ lo

/-- A field of two bytes travels most significant byte first (R169). -/
def beBytes (h : Half) : List Byte := [highByte h, lowByte h]

/-- R189: the command codes of the link, in the order of its table. -/
def knownCodes : List Byte :=
  [0x01#8, 0x02#8, 0x03#8, 0x04#8, 0x05#8, 0x06#8, 0x10#8, 0x11#8, 0x12#8, 0x13#8,
   0x20#8, 0x21#8, 0x22#8, 0x23#8, 0x24#8, 0x25#8, 0x26#8, 0x30#8, 0x31#8]

/-- R170, R189: the command code and the parameters of a link command, in the order sent; empty for a
step that is not a command of the link. These are the bytes that the command CRC covers (R171). -/
def commandBytes : Instr → List Byte
  | .status _ => [0x01#8]
  | .fetchCause _ => [0x02#8]
  | .clearCauses mask _ => 0x03#8 :: beBytes mask
  | .setCauseLevel cause level _ => [0x04#8, cause, level]
  | .setThreshold threshold _ => [0x05#8, threshold]
  | .readRecord _ => [0x06#8]
  | .writeRegion index mode base length _ =>
      [0x10#8, index, mode, highByte base, lowByte base, highByte length, lowByte length]
  | .readRegion index _ => [0x11#8, index]
  | .setArea base slots _ => [0x12#8, highByte base, lowByte base, highByte slots, lowByte slots]
  | .setOptions select holdLimit policy highMark enables _ =>
      [0x13#8, select, holdLimit, policy, highByte highMark, lowByte highMark, enables]
  | .arm _ => [0x20#8]
  | .disarm _ => [0x21#8]
  | .mark label _ => 0x22#8 :: beBytes label
  | .release _ => [0x23#8]
  | .undo option _ => [0x24#8, option]
  | .commit _ => [0x25#8]
  | .resume option _ => [0x26#8, option]
  | .readSlot index _ => 0x30#8 :: beBytes index
  | .readHead copy _ => [0x31#8, copy]
  | .unknownCommand code _ => [code]
  | .resetAssert => []
  | .resetRelease _ _ _ _ _ => []
  | .supplyLoss => []
  | .hostAccessArrive _ _ _ _ _ => []
  | .hostCycleEnd => []
  | .forwardComplete => []
  | .holdTimerExpire => []
  | .engineAccessComplete => []
  | .clearSweepComplete => []
  | .relabelSweepComplete => []
  | .linkReadComplete => []
  | .linkReadStatusDue => []
  | .markReqEdge => []
  | .undoReqEdge => []
  | .linkShortFrame => []
  | .linkFrameCut => []
  | .requestLineFall _ => []
  | .nssRiseAfterRelease => []

/-- The command CRC byte of a link command as received; for an unknown code the byte after the code
(R175); `none` for a step that is not a command of the link. -/
def crcByte : Instr → Option Byte
  | .status crc => some crc
  | .fetchCause crc => some crc
  | .clearCauses _ crc => some crc
  | .setCauseLevel _ _ crc => some crc
  | .setThreshold _ crc => some crc
  | .readRecord crc => some crc
  | .writeRegion _ _ _ _ crc => some crc
  | .readRegion _ crc => some crc
  | .setArea _ _ crc => some crc
  | .setOptions _ _ _ _ _ crc => some crc
  | .arm crc => some crc
  | .disarm crc => some crc
  | .mark _ crc => some crc
  | .release crc => some crc
  | .undo _ crc => some crc
  | .commit crc => some crc
  | .resume _ crc => some crc
  | .readSlot _ crc => some crc
  | .readHead _ crc => some crc
  | .unknownCommand _ next => some next
  | .resetAssert => none
  | .resetRelease _ _ _ _ _ => none
  | .supplyLoss => none
  | .hostAccessArrive _ _ _ _ _ => none
  | .hostCycleEnd => none
  | .forwardComplete => none
  | .holdTimerExpire => none
  | .engineAccessComplete => none
  | .clearSweepComplete => none
  | .relabelSweepComplete => none
  | .linkReadComplete => none
  | .linkReadStatusDue => none
  | .markReqEdge => none
  | .undoReqEdge => none
  | .linkShortFrame => none
  | .linkFrameCut => none
  | .requestLineFall _ => none
  | .nssRiseAfterRelease => none

/-- The bytes of a frame on SDI up to and including its command CRC byte (R170); empty for a step that is
not a command of the link. -/
def frameBytes (i : Instr) : List Byte :=
  match crcByte i with
  | some crc => commandBytes i ++ [crc]
  | none => []

/-- R170, R172, R175: the command that the bytes of a frame spell. An unknown code takes one byte after
it; a frame of another length than its command's is none (R173). -/
def decodeFrame (bytes : List Byte) : Option Instr :=
  match bytes with
  | [] => none
  | code :: rest =>
    if code ∉ knownCodes then
      match rest with
      | [next] => some (.unknownCommand code next)
      | _ => none
    else
      match rest with
      | [crc] =>
        if code = 0x01#8 then some (.status crc)
        else if code = 0x02#8 then some (.fetchCause crc)
        else if code = 0x06#8 then some (.readRecord crc)
        else if code = 0x20#8 then some (.arm crc)
        else if code = 0x21#8 then some (.disarm crc)
        else if code = 0x23#8 then some (.release crc)
        else if code = 0x25#8 then some (.commit crc)
        else none
      | [a, crc] =>
        if code = 0x05#8 then some (.setThreshold a crc)
        else if code = 0x11#8 then some (.readRegion a crc)
        else if code = 0x24#8 then some (.undo a crc)
        else if code = 0x26#8 then some (.resume a crc)
        else if code = 0x31#8 then some (.readHead a crc)
        else none
      | [a, b, crc] =>
        if code = 0x03#8 then some (.clearCauses (joinHalf a b) crc)
        else if code = 0x04#8 then some (.setCauseLevel a b crc)
        else if code = 0x22#8 then some (.mark (joinHalf a b) crc)
        else if code = 0x30#8 then some (.readSlot (joinHalf a b) crc)
        else none
      | [a, b, c, d, crc] =>
        if code = 0x12#8 then some (.setArea (joinHalf a b) (joinHalf c d) crc) else none
      | [a, b, c, d, e, f, crc] =>
        if code = 0x10#8 then some (.writeRegion a b (joinHalf c d) (joinHalf e f) crc)
        else if code = 0x13#8 then some (.setOptions a b c (joinHalf d e) f crc)
        else none
      | _ => none

/-- R170: the dummy bytes of a command's frame, by its code. -/
def dummyBytes (code : Byte) : Nat :=
  if code = 0x30#8 then 9 else if code = 0x31#8 then 12 else 0

/-- R170: the parameter bytes of a command, by its code; none for an unknown code. -/
def parameterBytes (code : Byte) : Nat :=
  if code = 0x03#8 ∨ code = 0x04#8 ∨ code = 0x22#8 ∨ code = 0x30#8 then 2
  else if code = 0x05#8 ∨ code = 0x11#8 ∨ code = 0x24#8 ∨ code = 0x26#8 ∨ code = 0x31#8 then 1
  else if code = 0x10#8 ∨ code = 0x13#8 then 6
  else if code = 0x12#8 then 4
  else 0

/-- R170: the response data bytes of a command's frame, by its code. -/
def responseBytes (code : Byte) : Nat :=
  if code = 0x01#8 then 35
  else if code = 0x02#8 then 4
  else if code = 0x03#8 then 2
  else if code = 0x06#8 then 10
  else if code = 0x11#8 ∨ code = 0x13#8 then 5
  else if code = 0x30#8 then 44
  else if code = 0x31#8 then 64
  else 0

/-- R170: the length of a command's frame: code, parameters, command CRC, dummy bytes, status, response
data, response CRC. -/
def frameLength (code : Byte) : Nat :=
  1 + parameterBytes code + 1 + dummyBytes code + 1 + responseBytes code + 1

/-- The host's question: the command that a word spells by the table's bits. No row of
spec/opcode_table.json gives any bits, so no word spells a command. -/
def decodeTableWord (_nbits _w : Nat) : Option Instr := none

end Sys2Proof
end

