-- ==== Sys2Proof/Config.lean ====
section
/-! DEFINITION. What the spec leaves open: the free values, constants with no body that nothing can
evaluate, each applied to the counter `freeCount` of the state; and the content of memory at power-on. -/

namespace Sys2Proof.Config

/-- R3: a memory write in progress when nRST is asserted or the supply is lost leaves the new halfword
(`true`) or the old one (`false`). Free value, log 2. -/
opaque cutWriteLands : Nat → Bool

/-- R124 and R125 do not say what D[15:0] carries after an arrival with nOE and nWE together.
Free value, log 3. -/
opaque bothStrobesData : Nat → Option Half

/-- R124 and R126 both answer an arrival with nOE and nWE together and neither lane enabled, the first
with a bus error and the second as completed. `true` is the bus error. Free value, log 4. -/
opaque bothStrobesNoLaneRefused : Nat → Bool

/-- What a byte of the memory that nothing has written reads as: the spec gives no content at power-on.
DESIGN CHOICE, log 1, unsafe. -/
def powerOnByte : Byte := 0x00#8

end Sys2Proof.Config
end

