-- ==== Sys2Proof/Machine/State.lean ====
section
/-! DEFINITION. The state of the U8120, block by block, as plain data, and the state after reset. -/

namespace Sys2Proof.Machine

/-- Whether the part runs: `reset` while nRST is low (R37), `unpowered` after a loss of supply until nRST
is asserted or released (R3, log 9). -/
inductive Power where
  | running
  | reset
  | unpowered
  deriving DecidableEq, Repr

/-- The two copies of the head record (R2). -/
inductive Copy where
  | a
  | b
  deriving DecidableEq, Repr

/-- The modes of a region entry (R143). -/
inductive RegionMode where
  | disabled
  | journal
  | guard
  | watch
  | guardWatch
  deriving DecidableEq, Repr

/-- One region entry (R143): base and length in KiB. -/
structure Region where
  mode : RegionMode
  base : Nat
  length : Nat
  deriving DecidableEq, Repr

/-- The region block: the eight entries (R143) and its copy of the journal area location (R150). -/
structure RegionBlock where
  entries : Vector Region 8
  areaBase : Nat
  areaSlots : Nat
  deriving DecidableEq, Repr

/-- One entry of the checkpoint stack (R56). -/
structure Checkpoint where
  position : Nat
  label : Half
  number : Nat
  deriving DecidableEq, Repr

/-- The overflow policy (R40). -/
inductive Policy where
  | refuse
  | breakJournal
  deriving DecidableEq, Repr

/-- The outcome of the last undo (R91). -/
inductive UndoOutcome where
  | none
  | normal
  | aborted
  | fault
  deriving DecidableEq, Repr

/-- The outcome of the last resume (R121). -/
inductive ResumeOutcome where
  | none
  | noHead
  | badHead
  | notArmed
  | broken
  | resumed
  deriving DecidableEq, Repr

/-- The reason at which the scan of the last resume stopped (R121); `atEnd` is END. -/
inductive StopReason where
  | none
  | void
  | kind
  | epoch
  | sequence
  | check
  | number
  | atEnd
  deriving DecidableEq, Repr

/-- The kind and the five header halfwords of a slot as read (R11). -/
structure SlotHeader where
  kind : Half
  epoch : Half
  sequence : Half
  subject : Half
  level : Half
  check : Half
  deriving DecidableEq, Repr

/-- A head write in progress (R8): the copy, its 32 halfwords fixed when the write begins, and how many
of its writes have completed. -/
structure HeadWrite where
  copy : Copy
  words : List Half
  done : Nat
  deriving DecidableEq, Repr

/-- The steps of ARMING and COMMITTING after the new epoch is chosen (R45, R95). -/
inductive BuildStep where
  | sweep
  | wipe (slot : Nat)
  | writeHead (w : HeadWrite)
  deriving DecidableEq, Repr

/-- The steps of ARMING (R44, R45): the head reads with the halfwords read so far, then the rest under the
new epoch. -/
inductive ArmStep where
  | readHeads (got : List Half)
  | build (epoch : Half) (step : BuildStep)
  deriving DecidableEq, Repr

/-- The steps of DISARMING (R100) and of BREAKING (R53), each in its own order. -/
inductive CloseStep where
  | sweep
  | writeHead (w : HeadWrite)
  deriving DecidableEq, Repr

/-- The steps of RELEASING (R63). -/
inductive ReleaseStep where
  | sweep
  | writeKind
  deriving DecidableEq, Repr

/-- A save in progress (R47, R48): the granule, its prior level, how many of the 39 accesses have
completed, and the halfwords read from the granule. At 39 the save waits for the end of its write (R49). -/
structure SaveWork where
  granule : Granule
  prior : Nat
  done : Nat
  data : List Half
  deriving DecidableEq, Repr

/-- The steps of UNDOING at slot fill − 1 (R76 to R79, R82): the header reads, the data reads, the restore
writes with the number done, the VOID write. -/
inductive UndoStep where
  | header (got : List Half)
  | data (header : SlotHeader) (got : List Half)
  | restore (header : SlotHeader) (data : List Half) (done : Nat)
  | void (header : SlotHeader)
  deriving DecidableEq, Repr

/-- An undo in progress: the values fixed at its entry (R74), whether a DISARM has been taken (R89), and
its step. -/
structure UndoWork where
  target : Nat
  drop : Bool
  walkDepth : Nat
  disarm : Bool
  step : UndoStep
  deriving DecidableEq, Repr

/-- The steps of SCANNING: the head reads (R110), the kind and header reads and the data reads of slot
fill (R115), the VOID writes above the resumed fill (R106). -/
inductive ScanStep where
  | heads (got : List Half)
  | header (got : List Half)
  | data (header : SlotHeader) (got : List Half)
  | voiding (slot : Nat) (reason : StopReason)
  deriving DecidableEq, Repr

/-- The engine's state (R34), each operation state with the work of its operation. -/
inductive Mode where
  | off
  | arming (step : ArmStep)
  | active
  | saving (w : SaveWork)
  | marking (label : Half) (done : Nat)
  | releasing (step : ReleaseStep)
  | undoing (u : UndoWork)
  | committing (epoch : Half) (step : BuildStep)
  | disarming (step : CloseStep)
  | recording (w : HeadWrite)
  | breaking (step : CloseStep)
  | broken
  | halted
  | scanning (autoUndo : Bool) (level : Nat) (step : ScanStep)
  deriving DecidableEq, Repr

/-- The journal engine's state and values (R38 to R42, R56, R65, R91, R121). -/
structure Engine where
  mode : Mode
  fill : Nat
  /-- Bottom first; depth is its length (R38). -/
  stack : List Checkpoint
  epoch : Half
  headSequence : Half
  current : Option Copy
  /-- The journal base in KiB (R1). -/
  base : Nat
  /-- The slot count S (R1). -/
  slots : Nat
  policy : Policy
  highMark : Nat
  markEnable : Bool
  undoEnable : Bool
  /-- The level at which MARK_REQ was last seen (R65). -/
  markLine : Bool
  undoLine : Bool
  markPending : Bool
  undoPending : Bool
  undoCount : Nat
  undoOutcome : UndoOutcome
  resumeOutcome : ResumeOutcome
  resumeStop : StopReason
  deriving DecidableEq, Repr

/-- The direction of an access (R124). -/
inductive Direction where
  | read
  | write
  deriving DecidableEq, Repr

/-- The byte lanes enabled (R124): `lower` is nLB with D[7:0], `upper` is nUB with D[15:8]. -/
structure Lanes where
  lower : Bool
  upper : Bool
  deriving DecidableEq, Repr

/-- What a held access waits for (R132): the end of the engine's operation, the save begun for it, or the
end of the break it triggered. -/
inductive HoldFor where
  | engine
  | save
  | breakEnd
  deriving DecidableEq, Repr

/-- Where the access in progress stands: held, its forward requested and not granted, or granted
(R131, R135, R136). -/
inductive Stage where
  | held (why : HoldFor)
  | forwarding
  | granted
  deriving DecidableEq, Repr

/-- The host access in progress with its sampled values (R124). -/
structure HostAccess where
  addr : HalfAddr
  dir : Direction
  lanes : Lanes
  data : Half
  stage : Stage
  /-- The limit that the running hold timer took at its start (R133). -/
  timer : Option Byte
  /-- The index of the entry whose WATCH record is due at the completion (R128). -/
  watch : Option (Fin 8)
  /-- The host ended the cycle before the answer (R124). -/
  abandoned : Bool
  deriving DecidableEq, Repr

/-- The host port: the access in progress, the pins it drives (R124, R125), the host's cycle as the port
sees it, and the hold limit (R133). -/
structure HostPort where
  access : Option HostAccess
  rdy : Bool
  nBerr : Bool
  /-- D[15:0] as driven by the port; `none` when it is not driven. -/
  dout : Option Half
  /-- nCE and a strobe are asserted. -/
  cycle : Bool
  holdLimit : Byte
  deriving DecidableEq, Repr

/-- The three requesters of the memory port (R139). -/
inductive Requester where
  | forward
  | engine
  | link
  deriving DecidableEq, Repr

/-- A request for one halfword access (R139): a write carries its data. -/
structure MemAccess where
  addr : HalfAddr
  data : Option Half
  lanes : Lanes
  deriving DecidableEq, Repr

/-- The access in progress at the memory port (R140): `seen` is the halfword found at the grant, and
`discard` says that the link reader's series ended after the grant (R185). -/
structure PortBusy where
  who : Requester
  access : MemAccess
  seen : Half
  discard : Bool
  deriving DecidableEq, Repr

/-- The memory port (R139, R140): the access in progress, the requester served last, and each
requester's waiting request. -/
structure Port where
  busy : Option PortBusy
  last : Requester
  forward : Option MemAccess
  engine : Option MemAccess
  link : Option MemAccess
  deriving DecidableEq, Repr

/-- The sixteen causes (R155). -/
inductive Cause where
  | undoFault
  | halted
  | broken
  | journalFull
  | holdExpired
  | accessRefused
  | requestRefused
  | requestMerged
  | resumeEnd
  | undoEnd
  | baseEnd
  | checkpointEnd
  | journalHigh
  | watchHit
  | recordOverrun
  | linkError
  deriving DecidableEq, Repr

/-- The cause unit (R155) and its ALERT pin (R159). -/
structure CauseUnit where
  /-- Bit n is the latch of cause n. -/
  latches : BitVec 16
  levels : Vector (Fin 8) 16
  threshold : Fin 8
  alert : Bool
  deriving DecidableEq, Repr

/-- The outcome field of an access record (R164). -/
inductive RecordOutcome where
  | passed
  | refused
  deriving DecidableEq, Repr

/-- One access record (R164). Region index 8 is the journal area. -/
structure AccessRecord where
  sequence : Byte
  addr : HalfAddr
  dir : Direction
  lanes : Lanes
  data : Half
  region : Fin 9
  outcome : RecordOutcome
  deriving DecidableEq, Repr

/-- The access record queue (R165, R166), oldest record first. -/
structure RecordQueue where
  queue : List AccessRecord
  overrun : Bool
  nextSequence : Byte
  deriving DecidableEq, Repr

/-- The open frame once its command CRC byte has completed (R172): the command code, and the status,
response data and response CRC once they are decided (R176, R185). -/
structure Frame where
  code : Byte
  response : Option (List Byte)
  deriving DecidableEq, Repr

/-- The link reader's series (R183, R184): its first halfword, its length, the halfwords read. -/
structure Reader where
  start : HalfAddr
  total : Nat
  got : List Half
  deriving DecidableEq, Repr

/-- The management link: `selected` while the link sees nSS low (R169), and `ignoring` while nSS has been low
since the release (R186). -/
structure Link where
  selected : Bool
  ignoring : Bool
  frame : Option Frame
  reader : Option Reader
  deriving DecidableEq, Repr

/-- The bytes of memory that differ from what an unwritten byte reads as, addresses strictly rising. -/
abbrev Memory := List Host.Cell

/-- The granules whose level is not 0, with their levels, granule numbers strictly rising (R21). -/
abbrev TouchMap := List (Nat × Nat)

/-- The whole block, the memory behind it, and the queue of waiting commands. -/
structure State where
  power : Power
  engine : Engine
  touch : TouchMap
  regions : RegionBlock
  host : HostPort
  port : Port
  causes : CauseUnit
  records : RecordQueue
  link : Link
  memory : Memory
  /-- The MODEL's own counter, from which free values are drawn (log 2, 3, 4). -/
  freeCount : Nat
  /-- The waiting commands, first in, first out. -/
  pending : List Instr
  deriving DecidableEq, Repr

/-- Nothing in the spec stops the part: a refused access, a refused command and a bad slot are effects on
the state. So there is no fault, and no meaning can answer one. -/
inductive Fault where
  deriving DecidableEq, Repr

/-- Why a command has no meaning. -/
inductive Refusal where
  /-- Raised by `exec`'s arm of a command that has no meaning yet (none remains). Safe: no step is taken. -/
  | notModelled (mnemonic : String)
  /-- Raised by UNKNOWN_COMMAND on a term that is not well formed: its code names a command, so no such
  step exists (R175, log 21). Safe: no step is taken. -/
  | illFormed
  deriving DecidableEq, Repr

/-- R153: a region entry after reset. -/
def Region.afterReset : Region := { mode := .disabled, base := 0, length := 1 }

/-- The engine after a release with JSEL[3:0] zero (R42), the request lines seen low (log 7). -/
def Engine.afterReset : Engine :=
  { mode := .off, fill := 0, stack := [], epoch := 0, headSequence := 0, current := none,
    base := 0, slots := 0, policy := .refuse, highMark := 0,
    markEnable := false, undoEnable := false, markLine := false, undoLine := false,
    markPending := false, undoPending := false,
    undoCount := 0, undoOutcome := .none, resumeOutcome := .none, resumeStop := .none }

/-- The part right after the release of nRST with JSEL[3:0] zero, the bus idle, nSS high and both request
lines low (R42, R137, R142, R153, R163, R168, R180, R186, log 7), before an unwritten memory (log 1). -/
def State.reset : State :=
  { power := .running
    engine := Engine.afterReset
    touch := []
    regions := { entries := Vector.replicate 8 Region.afterReset, areaBase := 0, areaSlots := 0 }
    host := { access := none, rdy := true, nBerr := true, dout := none, cycle := false,
              holdLimit := 16 }
    port := { busy := none, last := .link, forward := none, engine := none, link := none }
    causes := { latches := 0, levels := Vector.replicate 16 0, threshold := 0, alert := false }
    records := { queue := [], overrun := false, nextSequence := 0 }
    link := { selected := false, ignoring := false, frame := none, reader := none }
    memory := []
    freeCount := 0
    pending := [] }

end Sys2Proof.Machine
end

