-- ==== Sys2Proof/Machine/Operands.lean ====
section
/-! DEFINITION. The codes and record formats of the part: status codes, the two CRCs, region entries, head
records and slots as halfwords, the response layouts of the link. -/

namespace Sys2Proof.Machine

/-- The status codes of a response (R177). -/
inductive Status where
  | ok
  | accepted
  | busy
  | state
  | range
  | depth
  | full
  | check
  | unknown
  deriving DecidableEq, Repr

/-- R189: the status byte. -/
def statusByte : Status → Byte
  | .ok => 0xA0#8
  | .accepted => 0xA1#8
  | .busy => 0xA2#8
  | .state => 0xA3#8
  | .range => 0xA4#8
  | .depth => 0xA5#8
  | .full => 0xA6#8
  | .check => 0xA7#8
  | .unknown => 0xA8#8

/-- The names of the fourteen engine states (R34). -/
inductive StateName where
  | off
  | arming
  | active
  | saving
  | marking
  | releasing
  | undoing
  | committing
  | disarming
  | recording
  | breaking
  | broken
  | halted
  | scanning
  deriving DecidableEq, Repr

/-- The state that a mode is in. -/
def Mode.name : Mode → StateName
  | .off => .off
  | .arming _ => .arming
  | .active => .active
  | .saving _ => .saving
  | .marking _ _ => .marking
  | .releasing _ => .releasing
  | .undoing _ => .undoing
  | .committing _ _ => .committing
  | .disarming _ => .disarming
  | .recording _ => .recording
  | .breaking _ => .breaking
  | .broken => .broken
  | .halted => .halted
  | .scanning _ _ _ => .scanning

/-- R34, R35: OFF, ACTIVE, BROKEN and HALTED are the resting states. -/
def StateName.resting (n : StateName) : Bool :=
  n == .off || n == .active || n == .broken || n == .halted

/-- R190: the state byte of STATUS. -/
def stateByte : StateName → Byte
  | .off => 0x00#8
  | .arming => 0x01#8
  | .active => 0x02#8
  | .saving => 0x03#8
  | .marking => 0x04#8
  | .releasing => 0x05#8
  | .undoing => 0x06#8
  | .committing => 0x07#8
  | .disarming => 0x08#8
  | .recording => 0x09#8
  | .breaking => 0x0A#8
  | .broken => 0x0B#8
  | .halted => 0x0C#8
  | .scanning => 0x0D#8

/-- R190: the byte of a last-undo outcome. -/
def undoOutcomeByte : UndoOutcome → Byte
  | .none => 0#8
  | .normal => 1#8
  | .aborted => 2#8
  | .fault => 3#8

/-- R190: the byte of a last-resume outcome. -/
def resumeOutcomeByte : ResumeOutcome → Byte
  | .none => 0#8
  | .noHead => 1#8
  | .badHead => 2#8
  | .notArmed => 3#8
  | .broken => 4#8
  | .resumed => 5#8

/-- R190: the byte of a stop reason. -/
def stopReasonByte : StopReason → Byte
  | .none => 0#8
  | .void => 1#8
  | .kind => 2#8
  | .epoch => 3#8
  | .sequence => 4#8
  | .check => 5#8
  | .number => 6#8
  | .atEnd => 7#8

/-- R189: the policy as the link carries it. -/
def policyByte : Policy → Byte
  | .refuse => 0#8
  | .breakJournal => 1#8

/-- A number in a two-byte field. -/
def half (n : Nat) : Half := BitVec.ofNat 16 n

/-- The bytes of a halfword in memory order, low byte first (12_formats). -/
def leBytes (h : Half) : List Byte := [lowByte h, highByte h]

/-! ## Checks -/

/-- R171: one shift of the CRC-8 register. -/
def crc8Shift (r : Byte) : Byte := if r.msb then (r <<< 1) ^^^ 0x07#8 else r <<< 1

/-- R171: the CRC-8 of a frame's bytes. -/
def crc8 (bytes : List Byte) : Byte :=
  bytes.foldl (fun r b => Nat.repeat crc8Shift 8 (r ^^^ b)) 0x00#8

/-- R14: one shift of the CRC-16 register. -/
def crc16Shift (r : Half) : Half := if r.msb then (r <<< 1) ^^^ 0x1021#16 else r <<< 1

/-- R14: the CRC-16 of the journal's records. -/
def crc16 (bytes : List Byte) : Half :=
  bytes.foldl (fun r b => Nat.repeat crc16Shift 8 (r ^^^ joinHalf b 0#8)) 0xFFFF#16

/-! ## Region entries -/

/-- R143: the code of a mode. -/
def modeCode : RegionMode → Nat
  | .disabled => 0
  | .journal => 1
  | .guard => 2
  | .watch => 3
  | .guardWatch => 4

/-- R143: the mode of a code; codes 5 and above name no mode. -/
def modeOfCode (c : Nat) : Option RegionMode :=
  match c with
  | 0 => some .disabled
  | 1 => some .journal
  | 2 => some .guard
  | 3 => some .watch
  | 4 => some .guardWatch
  | _ => none

/-- R145: the entry of a mode code, base and length when it passes the range tests. -/
def regionOf (code base length : Nat) : Option Region :=
  match modeOfCode code with
  | none => none
  | some mode =>
    if base ≤ 1023 ∧ 1 ≤ length ∧ length ≤ 1024 ∧ base + length ≤ 1024 then
      some { mode := mode, base := base, length := length }
    else none

/-- R187: the two halfwords of an entry in a head record. -/
def regionWords (r : Region) : List Half := [half (modeCode r.mode * 4096 + r.base), half r.length]

/-- R187, R111: the entry in two halfwords of a head record, `none` when it fails the range tests. -/
def regionOfWords (first second : Half) : Option Region :=
  regionOf (first.toNat / 4096) (first.toNat % 4096) second.toNat

/-! ## Head records -/

/-- Halfword i of a record as read; 0 beyond its end. -/
def word (ws : List Half) (i : Nat) : Half := ws.getD i 0#16

/-- R14, R4: the check of a head record, over its first 31 halfwords, each high byte first. -/
def headCheck (ws : List Half) : Half := crc16 ((ws.take 31).flatMap beBytes)

/-- R4, R8, R187: the 32 halfwords of a head record. -/
def headWords (sequence epoch : Half) (slots : Nat) (journalState : Half) (entries : List Region) :
    List Half :=
  let body := [0x4A55#16, sequence, epoch, half slots, journalState] ++ entries.flatMap regionWords
    ++ List.replicate 10 0#16
  body ++ [headCheck body]

/-- R5: a head record is valid by its tag and its check. -/
def headValid (ws : List Half) : Bool := word ws 0 == 0x4A55#16 && word ws 31 == headCheck ws

/-- R187: the head sequence of a head record. -/
def headSeqOf (ws : List Half) : Half := word ws 1

/-- R187: the epoch of a head record. -/
def headEpochOf (ws : List Half) : Half := word ws 2

/-- R187: the slot count of a head record, judged on the whole halfword. -/
def headSlotsOf (ws : List Half) : Nat := (word ws 3).toNat

/-- R187: the journal state of a head record. -/
def headStateOf (ws : List Half) : Half := word ws 4

/-- R187: entry i of the region table copy of a head record. -/
def headRegionOf (ws : List Half) (i : Nat) : Option Region :=
  regionOfWords (word ws (5 + 2 * i)) (word ws (6 + 2 * i))

/-- R6: the newer valid copy of two head records, if there is one. -/
def newerCopy (a b : List Half) : Option Copy :=
  match headValid a, headValid b with
  | false, false => none
  | true, false => some .a
  | false, true => some .b
  | true, true => if (headSeqOf a - headSeqOf b).toNat ≤ 32768 then some .a else some .b

/-- R4: the journal state values. -/
def stateArmed : Half := 1#16
/-- R4. -/
def stateBroken : Half := 2#16
/-- R4. -/
def stateDisarmed : Half := 3#16

/-! ## Slots -/

/-- R188: the kind values. -/
def kindVoid : Half := 0x0000#16
/-- R188. -/
def kindSave : Half := 0x3C01#16
/-- R188. -/
def kindMarker : Half := 0x3C02#16
/-- R188. -/
def kindReleased : Half := 0x3C04#16

/-- R12: the kinds that hold an entry. -/
def isEntryKind (k : Half) : Bool := k == kindSave || k == kindMarker || k == kindReleased

/-- R14: the check of a MARKER or RELEASED slot. -/
def markerCheck (epoch sequence subject level : Half) : Half :=
  crc16 ([epoch, sequence, subject, level].flatMap beBytes)

/-- R14: the check of a SAVE slot; the data halfwords enter low byte first. -/
def saveCheck (epoch sequence subject level : Half) (data : List Half) : Half :=
  crc16 ([epoch, sequence, subject, level].flatMap beBytes ++ data.flatMap leBytes)

/-- The header of six halfwords read in ascending order (R11). -/
def slotHeaderOf (ws : List Half) : SlotHeader :=
  { kind := word ws 0, epoch := word ws 1, sequence := word ws 2,
    subject := word ws 3, level := word ws 4, check := word ws 5 }

/-- R13: the check that a header's fields call for, for its kind. -/
def headerCheckOk (h : SlotHeader) (data : List Half) : Bool :=
  if h.kind = kindSave then h.check == saveCheck h.epoch h.sequence h.subject h.level data
  else h.check == markerCheck h.epoch h.sequence h.subject h.level

/-- The level byte of a header, at +8 (R188). -/
def levelByte (h : SlotHeader) : Nat := (lowByte h.level).toNat

/-- R77, R79, R82: undo's test of the byte at +9. -/
def levelHighZero (h : SlotHeader) : Bool := highByte h.level == 0#8

/-! ## Response layouts -/

/-- R191: byte 5 of a READ RECORD response. -/
def recordFlags (r : AccessRecord) : Byte :=
  (if r.dir = .write then 1#8 else 0#8) ||| (if r.lanes.lower then 2#8 else 0#8)
    ||| (if r.lanes.upper then 4#8 else 0#8) ||| (if r.outcome = .refused then 8#8 else 0#8)

/-- R191, R179: the byte address of a record as three bytes, most significant first. -/
def addressBytes (a : HalfAddr) : List Byte :=
  let n := 2 * a.toNat
  [BitVec.ofNat 8 (n / 65536), BitVec.ofNat 8 (n / 256), BitVec.ofNat 8 n]

/-- R191: bytes 1 to 8 of a READ RECORD response. -/
def recordBytes (r : AccessRecord) : List Byte :=
  [r.sequence] ++ addressBytes r.addr ++ [recordFlags r] ++ beBytes r.data
    ++ [BitVec.ofNat 8 r.region.val]

/-- R191: the READ REGION response. -/
def regionBytes (r : Region) : List Byte :=
  [BitVec.ofNat 8 (modeCode r.mode)] ++ beBytes (half r.base) ++ beBytes (half r.length)

/-- R190: the place of a checkpoint in STATUS, 0 for an empty place. -/
def checkpointBytes (c : Option Checkpoint) : List Byte :=
  match c with
  | some c => beBytes (half c.position) ++ beBytes c.label
  | none => beBytes 0#16 ++ beBytes 0#16

/-- Two flags in bits 0 and 1 of a byte: MARK_REQ and UNDO_REQ (R189, R190). -/
def lineBits (mark undo : Bool) : Byte :=
  (if mark then 1#8 else 0#8) ||| (if undo then 2#8 else 0#8)

end Sys2Proof.Machine
end

