-- ==== Sys2Proof/Machine/Flags.lean ====
section
/-! DEFINITION. The cause unit: latching, the level causes' conditions, ALERT, the choice of FETCH CAUSE
(chapter 10). Every change of a latch, a level or the threshold goes through `CauseUnit.follow`. -/

namespace Sys2Proof.Machine

/-- R155: the cause numbers. -/
def causeNumber : Cause → Fin 16
  | .undoFault => 0
  | .halted => 1
  | .broken => 2
  | .journalFull => 3
  | .holdExpired => 4
  | .accessRefused => 5
  | .requestRefused => 6
  | .requestMerged => 7
  | .resumeEnd => 8
  | .undoEnd => 9
  | .baseEnd => 10
  | .checkpointEnd => 11
  | .journalHigh => 12
  | .watchHit => 13
  | .recordOverrun => 14
  | .linkError => 15

/-- R161: the mask of one cause. -/
def causeBit (n : Fin 16) : BitVec 16 := BitVec.twoPow 16 n.val

/-- A latched cause whose level exceeds the threshold (R159, R160). -/
def CauseUnit.counts (u : CauseUnit) (n : Fin 16) : Bool :=
  u.latches.getLsbD n.val && decide (u.threshold < u.levels.get n)

/-- R159: the level that ALERT follows. -/
def CauseUnit.alertLevel (u : CauseUnit) : Bool := (List.finRange 16).any u.counts

/-- R159: ALERT follows the latches, the levels and the threshold. -/
def CauseUnit.follow (u : CauseUnit) : CauseUnit := { u with alert := u.alertLevel }

/-- R156: a cause's event sets its latch, whatever its level. -/
def raise (c : Cause) (s : State) : State :=
  { s with causes :=
      { s.causes with latches := s.causes.latches ||| causeBit (causeNumber c) }.follow }

/-- R157, R87: the condition of HALTED. -/
def haltedHolds (s : State) : Bool := s.engine.mode == .halted

/-- R41, R157: the condition of JOURNAL_HIGH. -/
def highHolds (s : State) : Bool :=
  decide (1 ≤ s.engine.highMark ∧ s.engine.highMark ≤ 8192 ∧ s.engine.highMark ≤ s.engine.fill)

/-- The latches that the conditions of the two level causes hold set. -/
def heldLatches (s : State) : BitVec 16 :=
  (if haltedHolds s then causeBit (causeNumber .halted) else 0#16)
    ||| (if highHolds s then causeBit (causeNumber .journalHigh) else 0#16)

/-- R157: while its condition holds, a level cause is latched again at once. -/
def renew (s : State) : State :=
  { s with causes := { s.causes with latches := s.causes.latches ||| heldLatches s }.follow }

/-- R161, R157: the latches named by a mask are cleared, and a level cause whose condition holds is renewed
in the same event. -/
def clearLatches (mask : BitVec 16) (s : State) : State :=
  renew { s with causes := { s.causes with latches := s.causes.latches &&& ~~~mask } }

/-- R160: of two causes the one FETCH CAUSE prefers: the higher level, and of equal levels the lower number
(`best` has the lower number). -/
def preferred (u : CauseUnit) (best : Option (Fin 16)) (n : Fin 16) : Option (Fin 16) :=
  if u.counts n then
    match best with
    | none => some n
    | some b => if u.levels.get b < u.levels.get n then some n else some b
  else best

/-- R160: the cause that FETCH CAUSE chooses. -/
def CauseUnit.chosen (u : CauseUnit) : Option (Fin 16) :=
  (List.finRange 16).foldl (preferred u) none

end Sys2Proof.Machine
end

