-- ==== Sys2Proof/Machine/Ops.lean ====
section
/-! DEFINITION. The shared operations: the sparse tables behind memory and touch map, the journal's
geometry, the record queue, the memory port, the host port's answers and its classification. -/

namespace Sys2Proof.Machine

/-! ## Sparse tables -/

/-- What key `a` holds: `d` when it is not listed. -/
def sparseRead {α : Type} (d : α) : List (Nat × α) → Nat → α
  | [], _ => d
  | (b, v) :: rest, a => if a = b then v else sparseRead d rest a

/-- Key `a` set to `v`, the list kept strictly rising and free of entries equal to `d`. -/
def sparseWrite {α : Type} [DecidableEq α] (d : α) :
    List (Nat × α) → Nat → α → List (Nat × α)
  | [], a, v => if v = d then [] else [(a, v)]
  | (b, w) :: rest, a, v =>
    if a < b then (if v = d then (b, w) :: rest else (a, v) :: (b, w) :: rest)
    else if a = b then (if v = d then rest else (a, v) :: rest)
    else (b, w) :: sparseWrite d rest a v

/-- The canonical form: keys strictly rising, below `n`, and no entry equal to `d`. -/
abbrev sparseWf {α : Type} (d : α) (n : Nat) (m : List (Nat × α)) : Prop :=
  m.Pairwise (fun c e => c.1 < e.1) ∧ ∀ c ∈ m, c.1 < n ∧ c.2 ≠ d

/-! ## Memory -/

/-- The size of the address space in bytes (00_scope). -/
def memorySize : Nat := 1048576

/-- The byte at an address. -/
def Memory.read (m : Memory) (a : Nat) : Byte := sparseRead Config.powerOnByte m a

/-- The memory with one byte written. -/
def Memory.write (m : Memory) (a : Nat) (v : Byte) : Memory := sparseWrite Config.powerOnByte m a v

/-- The canonical form of memory. -/
abbrev Memory.wf (m : Memory) : Prop := sparseWf Config.powerOnByte memorySize m

/-- The halfword at a halfword address: the low byte lies at the even address (12_formats). -/
def readHalf (m : Memory) (a : HalfAddr) : Half :=
  joinHalf (Memory.read m (2 * a.toNat + 1)) (Memory.read m (2 * a.toNat))

/-- R136: a write changes the bytes of its enabled lanes. -/
def writeHalf (m : Memory) (a : HalfAddr) (lanes : Lanes) (v : Half) : Memory :=
  let m := if lanes.lower then Memory.write m (2 * a.toNat) (lowByte v) else m
  if lanes.upper then Memory.write m (2 * a.toNat + 1) (highByte v) else m

/-- Both lanes enabled, as in every access of the engine and of the link reader (R139). -/
def bothLanes : Lanes := { lower := true, upper := true }

/-! ## The touch map -/

/-- R21: the level of a granule. -/
def TouchMap.level (t : TouchMap) (g : Nat) : Nat := sparseRead 0 t g

/-- A granule's level set. -/
def TouchMap.set (t : TouchMap) (g level : Nat) : TouchMap := sparseWrite 0 t g level

/-- The canonical form of the touch map. -/
abbrev TouchMap.wf (t : TouchMap) : Prop := sparseWf 0 32768 t

/-- R30: each level equal to d becomes d − 1, and every other level stays. -/
def TouchMap.relabel (t : TouchMap) (d : Nat) : TouchMap :=
  t.filterMap fun e =>
    let level := if e.2 = d then d - 1 else e.2
    if level = 0 then none else some (e.1, level)

/-- The granule of a halfword address: address bits 19 to 5. -/
def granuleOf (a : HalfAddr) : Granule := a.extractLsb' 4 15

/-! ## The journal area -/

/-- R1: the bytes of a configured area of S slots. -/
def areaBytes (slots : Nat) : Nat := 128 + 44 * slots

/-- R1: the area of a base in KiB and a slot count fits the memory. -/
def areaFits (base slots : Nat) : Bool := decide (base * 1024 + areaBytes slots ≤ memorySize)

/-- R2: a byte address lies in the area. -/
def inArea (base slots a : Nat) : Bool :=
  decide (slots ≠ 0 ∧ base * 1024 ≤ a ∧ a < base * 1024 + areaBytes slots)

/-- Two byte ranges, each from its first bound up to but not including its second, share a byte. -/
def rangesMeet (a b c d : Nat) : Bool := decide (max a c < min b d)

/-- R146: an enabled JOURNAL entry overlaps the area; no entry does when S is 0. -/
def overlapsArea (base slots : Nat) (r : Region) : Bool :=
  r.mode == .journal && decide (slots ≠ 0) &&
    rangesMeet (r.base * 1024) ((r.base + r.length) * 1024) (base * 1024)
      (base * 1024 + areaBytes slots)

/-- R77: a granule shares a byte with the area. -/
def granuleMeetsArea (base slots g : Nat) : Bool :=
  decide (slots ≠ 0) &&
    rangesMeet (g * 32) (g * 32 + 32) (base * 1024) (base * 1024 + areaBytes slots)

/-- R2: halfword i of a head record. -/
def headAddr (base : Nat) (c : Copy) (i : Nat) : HalfAddr :=
  BitVec.ofNat 19 (base * 512 + (match c with | .a => 0 | .b => 32) + i)

/-- R2: halfword i of slot k. -/
def slotAddr (base k i : Nat) : HalfAddr := BitVec.ofNat 19 (base * 512 + 64 + 22 * k + i)

/-- Halfword j of a granule. -/
def granuleAddr (g j : Nat) : HalfAddr := BitVec.ofNat 19 (g * 16 + j)

/-! ## Engine values -/

/-- R38: depth. -/
def Engine.depth (e : Engine) : Nat := e.stack.length

/-- R56: the position of the top checkpoint. -/
def Engine.topPosition (e : Engine) : Nat := (e.stack.getLast?.map Checkpoint.position).getD 0

/-- R56: the base checkpoint. -/
def baseCheckpoint : Checkpoint := { position := 0, label := 0#16, number := 1 }

def setMode (m : Mode) (s : State) : State := { s with engine := { s.engine with mode := m } }

def setFill (n : Nat) (s : State) : State := { s with engine := { s.engine with fill := n } }

def setStack (l : List Checkpoint) (s : State) : State :=
  { s with engine := { s.engine with stack := l } }

/-- R58: the top checkpoint removed. -/
def popStack (s : State) : State := setStack s.engine.stack.dropLast s

/-- R58: a checkpoint pushed, its number one above the old depth. -/
def pushStack (position : Nat) (label : Half) (s : State) : State :=
  setStack (s.engine.stack ++
    [{ position := position, label := label, number := s.engine.depth + 1 }]) s

/-- R58: fill 0 and no checkpoint, as in OFF and BROKEN. -/
def emptyJournal (s : State) : State := setStack [] (setFill 0 s)

/-- R58: fill 0 and the base alone. -/
def baseAlone (s : State) : State := setStack [baseCheckpoint] (setFill 0 s)

def setLevel (g level : Nat) (s : State) : State := { s with touch := TouchMap.set s.touch g level }

/-- R150: the journal base and S change in the engine and in the region block's copy at one event. -/
def setAreaValues (base slots : Nat) (s : State) : State :=
  { s with engine := { s.engine with base := base, slots := slots }
           regions := { s.regions with areaBase := base, areaSlots := slots } }

def setMarkPending (b : Bool) (s : State) : State :=
  { s with engine := { s.engine with markPending := b } }

def setUndoPending (b : Bool) (s : State) : State :=
  { s with engine := { s.engine with undoPending := b } }

/-! ## Access records -/

/-- R165, R166: a record takes the present sequence; a full queue drops it. -/
def handRecord (a : HostAccess) (data : Half) (region : Fin 9) (outcome : RecordOutcome) (s : State) :
    State :=
  let r : AccessRecord :=
    { sequence := s.records.nextSequence, addr := a.addr, dir := a.dir, lanes := a.lanes,
      data := data, region := region, outcome := outcome }
  if s.records.queue.length < 8 then
    { s with records := { s.records with queue := s.records.queue ++ [r]
                                         nextSequence := s.records.nextSequence + 1 } }
  else
    raise .recordOverrun
      { s with records := { s.records with overrun := true
                                           nextSequence := s.records.nextSequence + 1 } }

/-! ## The memory port -/

/-- R140: the rotation that follows the requester served last. -/
def rotation : Requester → List Requester
  | .forward => [.engine, .link, .forward]
  | .engine => [.link, .forward, .engine]
  | .link => [.forward, .engine, .link]

/-- The waiting request of a requester. -/
def Port.waiting (p : Port) : Requester → Option MemAccess
  | .forward => p.forward
  | .engine => p.engine
  | .link => p.link

/-- The port without a requester's waiting request. -/
def Port.drop (p : Port) : Requester → Port
  | .forward => { p with forward := none }
  | .engine => { p with engine := none }
  | .link => { p with link := none }

/-- R140: the first waiting requester of the rotation. -/
def Port.next (p : Port) : Option Requester :=
  (rotation p.last).find? fun r => (p.waiting r).isSome

/-- The memory after an access has been granted: a write reaches it at its grant (R149, log 11). -/
def performAccess (m : Memory) (x : MemAccess) : Memory :=
  match x.data with
  | some v => writeHalf m x.addr x.lanes v
  | none => m

/-- R135: at the grant of its forward the host access's hold timer stops. -/
def HostPort.granted (h : HostPort) : HostPort :=
  { h with access := h.access.map fun a => { a with stage := .granted, timer := none } }

/-- R140: one request granted. -/
def grantTo (r : Requester) (x : MemAccess) (s : State) : State :=
  { s with
    port := { s.port.drop r with
      busy := some { who := r, access := x, seen := readHalf s.memory x.addr, discard := false } }
    memory := performAccess s.memory x
    host := if r = .forward then s.host.granted else s.host }

/-- R140: an idle port grants the first waiting request of the rotation. -/
def grant (s : State) : State :=
  match s.port.busy with
  | some _ => s
  | none =>
    match s.port.next with
    | none => s
    | some r =>
      match s.port.waiting r with
      | none => s
      | some x => grantTo r x s

/-- R140: the access in progress completes, and its requester becomes the last served. -/
def releasePort (who : Requester) (s : State) : State :=
  { s with port := { s.port with busy := none, last := who } }

/-- R142: the port idle, no request waiting, the link reader served last. -/
def Port.idle : Port :=
  { busy := none, last := .link, forward := none, engine := none, link := none }

/-- R3, R37, R142: the access in progress is cut short and every request discarded. A write cut short
leaves the new halfword or the old one, a free value (log 2). -/
def cutAccess (s : State) : State :=
  match s.port.busy with
  | none => { s with port := Port.idle }
  | some b =>
    match b.access.data with
    | none => { s with port := Port.idle }
    | some _ =>
      { s with
        port := Port.idle
        memory := if Config.cutWriteLands s.freeCount then s.memory
                  else writeHalf s.memory b.access.addr bothLanes b.seen
        freeCount := s.freeCount + 1 }

/-- The memory-side pins (chapter 8.5, R142), asserted as `true`. -/
structure MemPins where
  chipEnable : Bool
  outputEnable : Bool
  writeEnable : Bool
  lanes : Lanes
  addr : Option HalfAddr
  data : Option Half
  deriving DecidableEq, Repr

/-- The pins of the memory side follow the access in progress. With none, nMCE, nMOE and nMWE are deasserted; that the
lanes are so too, and MA and MD not driven, is the model's (DESIGN CHOICE, log 27). -/
def Port.pins (p : Port) : MemPins :=
  match p.busy with
  | none =>
    { chipEnable := false, outputEnable := false, writeEnable := false,
      lanes := { lower := false, upper := false }, addr := none, data := none }
  | some b =>
    { chipEnable := true, outputEnable := b.access.data.isNone, writeEnable := b.access.data.isSome,
      lanes := b.access.lanes, addr := some b.access.addr, data := b.access.data }

/-! ## The engine's next access -/

def readAt (a : HalfAddr) : MemAccess := { addr := a, data := none, lanes := bothLanes }

def writeAt (a : HalfAddr) (v : Half) : MemAccess := { addr := a, data := some v, lanes := bothLanes }

/-- R15: the four header halfwords under the check, and the check, of a new slot. -/
def newHeader (epoch : Half) (k : Nat) (subject level check : Half) : List Half :=
  [epoch, half k, subject, level, check]

/-- R47, R48: access n of the 39 of a save. -/
def saveAccess (e : Engine) (w : SaveWork) (n : Nat) : Option MemAccess :=
  let k := e.fill
  let subject := half w.granule.toNat
  let level := half w.prior
  if n = 0 then some (writeAt (slotAddr e.base k 0) kindVoid)
  else if n ≤ 32 then
    let j := (n - 1) / 2
    if n % 2 = 1 then some (readAt (granuleAddr w.granule.toNat j))
    else some (writeAt (slotAddr e.base k (6 + j)) (word w.data j))
  else if n ≤ 37 then
    let check := saveCheck e.epoch (half k) subject level w.data
    some (writeAt (slotAddr e.base k (n - 32)) (word (newHeader e.epoch k subject level check) (n - 33)))
  else if n = 38 then some (writeAt (slotAddr e.base k 0) kindSave)
  else none

/-- R60: access n of the 7 of a mark. -/
def markAccess (e : Engine) (label : Half) (n : Nat) : Option MemAccess :=
  let k := e.fill
  let level := half (e.depth + 1)
  if n = 0 then some (writeAt (slotAddr e.base k 0) kindVoid)
  else if n ≤ 5 then
    let check := markerCheck e.epoch (half k) label level
    some (writeAt (slotAddr e.base k n) (word (newHeader e.epoch k label level check) (n - 1)))
  else if n = 6 then some (writeAt (slotAddr e.base k 0) kindMarker)
  else none

/-- R8: the next write of a head write. -/
def headAccess (e : Engine) (w : HeadWrite) : MemAccess :=
  writeAt (headAddr e.base w.copy w.done) (word w.words w.done)

/-- R44, R110: head read n of 64, copy A first. -/
def headRead (e : Engine) (n : Nat) : MemAccess :=
  readAt (if n < 32 then headAddr e.base .a n else headAddr e.base .b (n - 32))

/-- R76 to R79, R82: the next access of an undo at slot fill − 1. -/
def undoAccess (e : Engine) (u : UndoWork) : MemAccess :=
  let k := e.fill - 1
  match u.step with
  | .header got => readAt (slotAddr e.base k got.length)
  | .data _ got => readAt (slotAddr e.base k (6 + got.length))
  | .restore h data done => writeAt (granuleAddr h.subject.toNat done) (word data done)
  | .void _ => writeAt (slotAddr e.base k 0) kindVoid

/-- R110, R115, R106: the next access of a resume. -/
def scanAccess (e : Engine) (step : ScanStep) : MemAccess :=
  match step with
  | .heads got => headRead e got.length
  | .header got => readAt (slotAddr e.base e.fill got.length)
  | .data _ got => readAt (slotAddr e.base e.fill (6 + got.length))
  | .voiding k _ => writeAt (slotAddr e.base k 0) kindVoid

/-- The next access of ARMING or COMMITTING under the new epoch; a sweep makes none (R45, R95, R104). -/
def buildAccess (e : Engine) (step : BuildStep) : Option MemAccess :=
  match step with
  | .sweep => none
  | .wipe k => some (writeAt (slotAddr e.base k 0) kindVoid)
  | .writeHead w => some (headAccess e w)

/-- The next access of DISARMING or BREAKING (R100, R53). -/
def closeAccess (e : Engine) (step : CloseStep) : Option MemAccess :=
  match step with
  | .sweep => none
  | .writeHead w => some (headAccess e w)

/-- R139: the one access that the engine's operation makes next. -/
def Engine.wanted (e : Engine) : Option MemAccess :=
  match e.mode with
  | .off => none
  | .arming (.readHeads got) => some (headRead e got.length)
  | .arming (.build _ step) => buildAccess e step
  | .active => none
  | .saving w => saveAccess e w w.done
  | .marking label done => markAccess e label done
  | .releasing .sweep => none
  | .releasing .writeKind => some (writeAt (slotAddr e.base (e.topPosition - 1) 0) kindReleased)
  | .undoing u => some (undoAccess e u)
  | .committing _ step => buildAccess e step
  | .disarming step => closeAccess e step
  | .recording w => some (headAccess e w)
  | .breaking step => closeAccess e step
  | .broken => none
  | .halted => none
  | .scanning _ _ step => some (scanAccess e step)

/-- The engine's access is the one in progress at the port. -/
def Port.servesEngine (p : Port) : Bool :=
  match p.busy with
  | some b => b.who == .engine
  | none => false

/-- R139: the engine's waiting request is its operation's next access, unless that access is the one in
progress. -/
def requestEngine (s : State) : State :=
  { s with port :=
      { s.port with engine := if s.port.servesEngine then none else s.engine.wanted } }

/-- What closes every event that moves the engine, the host port or the memory port: the level causes, the
engine's request, then the port's grant (log 12, 19). -/
def settle (s : State) : State := grant (requestEngine (renew s))

/-! ## The host port -/

/-- R125: the end of the access. The answer to a cycle that the host has already ended is withdrawn at
once (R124). -/
def answer (ok : Bool) (data : Option Half) (a : HostAccess) (s : State) : State :=
  { s with host := { s.host with
      access := none
      rdy := true
      nBerr := ok || a.abandoned
      dout := if a.abandoned then none else data } }

/-- R125: refused: a bus error, FFFFh for a read. -/
def answerRefused (a : HostAccess) (s : State) : State :=
  answer false (if a.dir = .read then some 0xFFFF#16 else none) a s

/-- R125: the read data of a completed access, FFh on a lane not enabled. -/
def laneData (lanes : Lanes) (v : Half) : Half :=
  joinHalf (if lanes.upper then highByte v else 0xFF#8) (if lanes.lower then lowByte v else 0xFF#8)

/-- R136: the memory access that a forward asks for. -/
def forwardAccess (a : HostAccess) : MemAccess :=
  { addr := a.addr, data := if a.dir = .write then some a.data else none, lanes := a.lanes }

/-- R136: the forward requested, with the WATCH record that will be due. -/
def requestForward (watch : Option (Fin 8)) (a : HostAccess) (s : State) : State :=
  { s with
    host := { s.host with access := some { a with stage := .forwarding, watch := watch } }
    port := { s.port with forward := some (forwardAccess a) } }

/-- R135, R149: the forward request withdrawn. -/
def withdrawForward (s : State) : State := { s with port := { s.port with forward := none } }

/-- R131, R133: the access held. Its timer starts with the limit in force, or goes on when it already runs
(log 13). -/
def holdAccess (why : HoldFor) (a : HostAccess) (s : State) : State :=
  { s with host := { s.host with
      access := some { a with stage := .held why, watch := none
                              timer := some (a.timer.getD s.host.holdLimit) } } }

/-- R127 to R129: what classification decides. -/
inductive Treatment where
  /-- Forwarded; the index of the entry whose WATCH record is due. -/
  | forward (watch : Option (Fin 8))
  | hold
  /-- A journaled write in ACTIVE meets the touch map (R24). -/
  | lookup
  /-- Refused with ACCESS_REFUSED; the region index of its record, if it makes one. -/
  | refuse (record : Option (Fin 9))
  deriving DecidableEq, Repr

/-- R144: an enabled entry contains a byte address. -/
def Region.contains (r : Region) (a : Nat) : Bool :=
  r.mode != .disabled && decide (r.base * 1024 ≤ a ∧ a < (r.base + r.length) * 1024)

/-- R144: the lowest-indexed enabled entry that contains an address. -/
def decisive (entries : Vector Region 8) (a : Nat) : Option (Fin 8) :=
  (List.finRange 8).find? fun i => (entries.get i).contains a

/-- R129: a journaled access by engine state. -/
def journaledTreatment (n : StateName) (d : Direction) : Treatment :=
  match n, d with
  | .off, _ => .forward none
  | .broken, _ => .forward none
  | .halted, _ => .refuse none
  | .active, .read => .forward none
  | .active, .write => .lookup
  | .saving, .read => .forward none
  | .saving, .write => .refuse none
  | .undoing, _ => .hold
  | .scanning, _ => .hold
  | .arming, .read => .forward none
  | .arming, .write => .hold
  | .marking, .read => .forward none
  | .marking, .write => .hold
  | .releasing, .read => .forward none
  | .releasing, .write => .hold
  | .committing, .read => .forward none
  | .committing, .write => .hold
  | .disarming, .read => .forward none
  | .disarming, .write => .hold
  | .recording, .read => .forward none
  | .recording, .write => .hold
  | .breaking, .read => .forward none
  | .breaking, .write => .hold

/-- R128, R129: an access decided by entry i. -/
def regionTreatment (n : StateName) (i : Fin 8) (m : RegionMode) (d : Direction) : Treatment :=
  match m, d with
  | .disabled, _ => .forward none
  | .journal, d => journaledTreatment n d
  | .guard, .read => .forward none
  | .guard, .write => .refuse (some i.castSucc)
  | .watch, _ => .forward (some i)
  | .guardWatch, .read => .forward (some i)
  | .guardWatch, .write => .refuse (some i.castSucc)

/-- R110: the head phase of SCANNING. -/
def Mode.headPhase : Mode → Bool
  | .scanning _ _ (.heads _) => true
  | _ => false

/-- R127: the area decides an access: it refuses a write with a record of index 8 and forwards a read. -/
def areaTreatment (d : Direction) : Treatment :=
  match d with
  | .read => .forward none
  | .write => .refuse (some 8)

/-- R127: the classification of an access, in the order of its steps. DEDUCED (log 29): in OFF the area is no
step of its own, so a WATCH entry records a host read of the area there (R127, R152), where R151 says that host reads
of the area make a record in no state. -/
def classify (s : State) (a : HalfAddr) (d : Direction) : Treatment :=
  let byte := 2 * a.toNat
  if s.engine.mode.headPhase then .hold
  else if s.engine.mode ≠ .off ∧ inArea s.regions.areaBase s.regions.areaSlots byte then
    areaTreatment d
  else
    match decisive s.regions.entries byte with
    | some i => regionTreatment s.engine.mode.name i (s.regions.entries.get i).mode d
    | none => .forward none

/-- R127, R128: a refusal by the area, a GUARD effect, HALTED or SAVING. -/
def refuseAccess (record : Option (Fin 9)) (a : HostAccess) (s : State) : State :=
  let s := match record with
    | some i => handRecord a a.data i .refused s
    | none => s
  answerRefused a (raise .accessRefused s)

/-! ## Head writes, saves and breaks begin -/

/-- R7: the copy that the next head write goes into. -/
def targetCopy : Option Copy → Copy
  | none => .a
  | some .a => .b
  | some .b => .a

/-- R8: a head write of a journal state and an epoch, with the table in force as it begins. -/
def newHeadWrite (journalState epoch : Half) (s : State) : HeadWrite :=
  { copy := targetCopy s.engine.current
    words := headWords (s.engine.headSequence + 1) epoch s.engine.slots journalState
      s.regions.entries.toList
    done := 0 }

/-- R47: the write is held and the engine enters SAVING at slot fill. -/
def beginSave (a : HostAccess) (level : Nat) (s : State) : State :=
  setMode (.saving
    { granule := granuleOf a.addr
      prior := if level < s.engine.depth then level else s.engine.depth - 1
      done := 0
      data := [] }) (holdAccess .save a s)

/-- R53: the write is held and the engine enters BREAKING. -/
def beginBreak (a : HostAccess) (s : State) : State :=
  setMode (.breaking (.writeHead (newHeadWrite stateBroken s.engine.epoch s)))
    (holdAccess .breakEnd a s)

/-- R52: the write is refused, with JOURNAL_FULL and no record. -/
def refuseFull (a : HostAccess) (s : State) : State := answerRefused a (raise .journalFull s)

/-- R24, R47, R52, R53: the lookup of a journaled write in ACTIVE. -/
def lookupWrite (a : HostAccess) (s : State) : State :=
  let level := TouchMap.level s.touch (granuleOf a.addr).toNat
  if level = s.engine.depth then requestForward none a s
  else if s.engine.fill < s.engine.slots then beginSave a level s
  else
    match s.engine.policy with
    | .refuse => refuseFull a s
    | .breakJournal => beginBreak a s

/-- The treatment of an access carried out. -/
def treat (t : Treatment) (a : HostAccess) (s : State) : State :=
  match t with
  | .forward watch => requestForward watch a s
  | .hold => holdAccess .engine a s
  | .lookup => lookupWrite a s
  | .refuse record => refuseAccess record a s

/-- R132: when the engine has left the state that held the access, the access is classified afresh; the
trigger of a break goes forward once the engine is in BROKEN (R53). -/
def resolveHeld (s : State) : State :=
  match s.host.access with
  | none => s
  | some a =>
    match a.stage with
    | .held .engine => treat (classify s a.addr a.dir) a s
    | .held .breakEnd => if s.engine.mode = .broken then requestForward none a s else s
    | .held .save => s
    | .forwarding => s
    | .granted => s

/-- R149: a forward not yet granted is withdrawn and its access classified afresh. -/
def reclassifyWaiting (s : State) : State :=
  match s.host.access with
  | none => s
  | some a =>
    match a.stage with
    | .forwarding => treat (classify s a.addr a.dir) a (withdrawForward s)
    | .held _ => s
    | .granted => s

end Sys2Proof.Machine
end

