-- ==== Sys2Proof/Machine/Engine.lean ====
section
/-! DEFINITION. The journal engine: how operations begin and end (R36, R69, R70), and what the completion
of each memory access does in each operation (chapters 3 to 7). -/

namespace Sys2Proof.Machine

/-! ## Entering a state -/

/-- R70: on an end in OFF, BROKEN or HALTED each set pending flag is cleared and refused. -/
def refusePending (s : State) : State :=
  if s.engine.markPending ∨ s.engine.undoPending then
    raise .requestRefused (setMarkPending false (setUndoPending false s))
  else s

/-- R38, R36: an operation ends in OFF. -/
def endInOff (s : State) : State :=
  resolveHeld (refusePending (setMode .off (emptyJournal s)))

/-- R38, R36, R54: an operation ends in BROKEN. -/
def endInBroken (s : State) : State :=
  resolveHeld (refusePending (raise .broken (setMode .broken (emptyJournal s))))

/-- The answer of MARK's tests (R59). -/
inductive MarkTest where
  | depth
  | full
  | pass
  deriving DecidableEq, Repr

/-- R59: depth is tested before space. -/
def markTest (e : Engine) : MarkTest :=
  if 4 ≤ e.depth then .depth else if e.slots ≤ e.fill then .full else .pass

/-- R66, R69: a MARK asked for by the line and refused. -/
def refuseMarkRequest (t : MarkTest) (s : State) : State :=
  match t with
  | .depth => raise .requestRefused s
  | .full => raise .journalFull (raise .requestRefused s)
  | .pass => s

/-- R59, R149: the engine leaves ACTIVE for MARKING. -/
def beginMark (label : Half) (s : State) : State := reclassifyWaiting (setMode (.marking label 0) s)

/-- R74: the values that an undo fixes at its entry, and its result set afresh. -/
def enterUndoing (drop : Bool) (s : State) : State :=
  let e := s.engine
  { s with engine := { e with
      mode := .undoing { target := e.topPosition, drop := drop, walkDepth := e.depth,
                         disarm := false, step := .header [] }
      undoCount := 0
      undoOutcome := .none } }

/-- R75: the walk is over when fill has come down to the target. -/
def atTarget (s : State) : Bool := decide (s.engine.fill ≤ s.engine.topPosition)

def setUndoOutcome (o : UndoOutcome) (s : State) : State :=
  { s with engine := { s.engine with undoOutcome := o } }

/-- R81, R82: an undo ends normally; what follows is the engine's entry into ACTIVE. -/
def undoNormal (s : State) : State := raise .undoEnd (setMode .active (setUndoOutcome .normal s))

/-- R69, steps 2 and 3: the engine rests in ACTIVE with no UNDO pending. -/
def restActive (s : State) : State :=
  if s.engine.markPending then
    let s := setMarkPending false s
    match markTest s.engine with
    | .pass => resolveHeld (beginMark 0xFFFF#16 s)
    | .depth => resolveHeld (refuseMarkRequest .depth s)
    | .full => resolveHeld (refuseMarkRequest .full s)
  else resolveHeld s

/-- R36, R69: an operation ends in ACTIVE: a pending UNDO first, and when it ends at once a pending MARK,
and then the held access. -/
def enterActive (s : State) : State :=
  let s := setMode .active s
  if s.engine.undoPending then
    let s := reclassifyWaiting (enterUndoing false (setUndoPending false s))
    if atTarget s then restActive (undoNormal s) else resolveHeld s
  else restActive s

/-- R72, R73: an undo begins in ACTIVE; with KEEP and nothing above the target it ends at its entry (R81). -/
def beginUndo (drop : Bool) (s : State) : State :=
  let s := reclassifyWaiting (enterUndoing drop s)
  if !drop && atTarget s then enterActive (undoNormal s) else s

/-- R99, R100: DISARMING begins with its clear sweep. -/
def enterDisarming (s : State) : State := setMode (.disarming .sweep) s

/-- R89: an undo ended by DISARM at a removal or between slots. -/
def undoAborted (s : State) : State :=
  resolveHeld (enterDisarming (raise .undoEnd (setUndoOutcome .aborted s)))

/-- R86, R89: the undo stops at the slot in progress; after a DISARM it goes on into DISARMING. -/
def undoBad (u : UndoWork) (s : State) : State :=
  let s := raise .undoFault (setUndoOutcome .fault s)
  if u.disarm then resolveHeld (enterDisarming s)
  else resolveHeld (refusePending (setMode .halted s))

/-- R103: the epoch that follows an old epoch. -/
def nextEpoch (old : Half) : Half := if old = 0xFFFF#16 then 1#16 else old + 1

/-- R38, R58, R109: entry to ARMING or SCANNING puts the base alone on the stack. -/
def beginArm (s : State) : State :=
  reclassifyWaiting (setMode (.arming (.readHeads [])) (baseAlone s))

/-- R109: entry to SCANNING. -/
def enterScanning (autoUndo : Bool) (s : State) : State :=
  let s := setMode (.scanning autoUndo 1 (.heads [])) (baseAlone s)
  { s with engine := { s.engine with resumeOutcome := .none, resumeStop := .none } }

/-- R58, R94, R99: taken in BROKEN, COMMIT and DISARM put the base alone on the stack. -/
def fromBroken (s : State) : State := if s.engine.mode = .broken then baseAlone s else s

/-- R94: COMMITTING begins, its new epoch fixed from the current one. -/
def beginCommit (s : State) : State :=
  reclassifyWaiting (setMode (.committing (nextEpoch s.engine.epoch) .sweep) (fromBroken s))

/-- R99: DISARMING begins from a resting state. -/
def beginDisarm (s : State) : State := reclassifyWaiting (enterDisarming (fromBroken s))

/-! ## Head writes -/

/-- R7: the check write of a head record has completed. -/
def headWritten (w : HeadWrite) (s : State) : State :=
  { s with engine := { s.engine with headSequence := s.engine.headSequence + 1
                                     current := some w.copy } }

/-- R8: one write of a head record has completed. -/
def HeadWrite.next (w : HeadWrite) : HeadWrite := { w with done := w.done + 1 }

/-- R8: the write that completes is the check write, the last of 32. -/
def HeadWrite.last (w : HeadWrite) : Bool := decide (31 ≤ w.done)

def setEpoch (e : Half) (s : State) : State := { s with engine := { s.engine with epoch := e } }

/-- R45, R95: the check write of ARM's or COMMIT's head record takes the new epoch into force, empties the
journal over the base alone, and ends the operation in ACTIVE with BASE_END. -/
def buildEnd (epoch : Half) (w : HeadWrite) (s : State) : State :=
  enterActive (raise .baseEnd (baseAlone (setEpoch epoch (headWritten w s))))

/-- R45, R95: the head write that puts the new epoch in force. -/
def buildHead (epoch : Half) (s : State) : BuildStep := .writeHead (newHeadWrite stateArmed epoch s)

/-- R104: after the VOID write of slot k, the next slot or the head write. -/
def buildAfterWipe (epoch : Half) (k : Nat) (s : State) : BuildStep :=
  if k + 1 < s.engine.slots then .wipe (k + 1) else buildHead epoch s

/-- R45, R95, R103: after the clear sweep, a wipe exactly when the new epoch is 1, and then the head
write. -/
def buildAfterSweep (epoch : Half) (s : State) : BuildStep :=
  if epoch = 1#16 ∧ 0 < s.engine.slots then .wipe 0 else buildHead epoch s

/-! ## ARMING -/

/-- R44: the epoch of the newer valid copy, 0 when there is none. -/
def chosenEpoch (a b : List Half) : Half :=
  match newerCopy a b with
  | none => 0#16
  | some .a => headEpochOf a
  | some .b => headEpochOf b

/-- R7, R44: the head sequence of the newer valid copy, 0000h when there is none. -/
def chosenSequence (a b : List Half) : Half :=
  match newerCopy a b with
  | none => 0#16
  | some .a => headSeqOf a
  | some .b => headSeqOf b

/-- R7: the engine's head sequence and current copy taken from two copies as read. -/
def takeHeadChoice (a b : List Half) (s : State) : State :=
  { s with engine := { s.engine with headSequence := chosenSequence a b
                                     current := newerCopy a b } }

/-- R44: after the 64 head reads ARMING chooses and goes on to its clear sweep. -/
def armChoose (got : List Half) (s : State) : State :=
  let a := got.take 32
  let b := got.drop 32
  setMode (.arming (.build (nextEpoch (chosenEpoch a b)) .sweep)) (takeHeadChoice a b s)

/-- One access of ARMING has completed (R44, R45). -/
def advanceArming (v : Half) (step : ArmStep) (s : State) : State :=
  match step with
  | .readHeads got =>
    let got := got ++ [v]
    if got.length < 64 then setMode (.arming (.readHeads got)) s else armChoose got s
  | .build _ .sweep => s
  | .build epoch (.wipe k) => setMode (.arming (.build epoch (buildAfterWipe epoch k s))) s
  | .build epoch (.writeHead w) =>
    if w.last then buildEnd epoch w s
    else setMode (.arming (.build epoch (.writeHead w.next))) s

/-- One access of COMMITTING has completed (R95). -/
def advanceCommitting (epoch : Half) (step : BuildStep) (s : State) : State :=
  match step with
  | .sweep => s
  | .wipe k => setMode (.committing epoch (buildAfterWipe epoch k s)) s
  | .writeHead w =>
    if w.last then buildEnd epoch w s else setMode (.committing epoch (.writeHead w.next)) s

/-! ## DISARMING, RECORDING, BREAKING -/

/-- One access of DISARMING has completed (R100). -/
def advanceDisarming (step : CloseStep) (s : State) : State :=
  match step with
  | .sweep => s
  | .writeHead w =>
    if w.last then endInOff (raise .baseEnd (headWritten w s))
    else setMode (.disarming (.writeHead w.next)) s

/-- One access of RECORDING has completed (R55). -/
def advanceRecording (w : HeadWrite) (s : State) : State :=
  if w.last then enterActive (headWritten w s) else setMode (.recording w.next) s

/-- One access of BREAKING has completed; after its head write comes the clear sweep (R53). -/
def advanceBreaking (step : CloseStep) (s : State) : State :=
  match step with
  | .sweep => s
  | .writeHead w =>
    if w.last then setMode (.breaking .sweep) (headWritten w s)
    else setMode (.breaking (.writeHead w.next)) s

/-! ## SAVING, MARKING, RELEASING -/

/-- R48: access n of a save is a read of the granule. -/
def saveReads (n : Nat) : Bool := decide (1 ≤ n ∧ n ≤ 32 ∧ n % 2 = 1)

/-- R49: the kind write of the save has completed: the write that waits for it goes forward; with none the
engine enters ACTIVE. -/
def saveWritten (s : State) : State :=
  match s.host.access with
  | none => enterActive s
  | some a => if a.stage = .held .save then requestForward none a s else enterActive s

/-- One access of SAVING has completed (R48, R26). -/
def advanceSaving (v : Half) (w : SaveWork) (s : State) : State :=
  let next := { w with done := w.done + 1, data := if saveReads w.done then w.data ++ [v] else w.data }
  if w.done = 38 then
    saveWritten (setMode (.saving next)
      (setLevel w.granule.toNat s.engine.depth (setFill (s.engine.fill + 1) s)))
  else setMode (.saving next) s

/-- R49: the access that SAVING served has ended, so the engine enters ACTIVE once its kind write has
completed. -/
def savingServed (s : State) : State :=
  match s.engine.mode with
  | .saving w => if 39 ≤ w.done then enterActive s else s
  | _ => s

/-- One access of MARKING has completed (R60). -/
def advanceMarking (label : Half) (done : Nat) (s : State) : State :=
  if done = 6 then
    let k := s.engine.fill + 1
    enterActive (raise .checkpointEnd (pushStack k label (setFill k s)))
  else setMode (.marking label (done + 1)) s

/-- The RELEASED kind write has completed (R63). -/
def advanceReleasing (step : ReleaseStep) (s : State) : State :=
  match step with
  | .sweep => s
  | .writeKind => enterActive (raise .checkpointEnd (popStack s))

/-! ## UNDOING -/

def setUndoStep (u : UndoWork) (step : UndoStep) (s : State) : State :=
  setMode (.undoing { u with step := step }) s

/-- R76: the tests of kind, epoch and sequence, against the current epoch and index k. -/
def headerTest (epoch : Half) (k : Nat) (h : SlotHeader) : Bool :=
  isEntryKind h.kind && h.epoch == epoch && h.sequence.toNat == k

/-- R79: a RELEASED slot above the target. -/
def releasedTest (walkDepth : Nat) (h : SlotHeader) : Bool :=
  headerCheckOk h [] && levelHighZero h &&
    decide (walkDepth + 1 ≤ levelByte h ∧ levelByte h ≤ 4)

/-- R82: the top marker of a DROP. -/
def markerTest (walkDepth : Nat) (h : SlotHeader) : Bool :=
  h.kind == kindMarker && headerCheckOk h [] && levelHighZero h && decide (levelByte h = walkDepth)

/-- R77: a SAVE slot whose data have been read. -/
def saveTest (base slots : Nat) (h : SlotHeader) (data : List Half) : Bool :=
  headerCheckOk h data && levelHighZero h && decide (levelByte h ≤ 3) &&
    decide (h.subject.toNat ≤ 32767) && !granuleMeetsArea base slots h.subject.toNat

/-- R76, R79, R80: what the walk does with a header at index k = fill − 1. -/
def judgeWalk (u : UndoWork) (h : SlotHeader) (s : State) : State :=
  if headerTest s.engine.epoch (s.engine.fill - 1) h then
    if h.kind = kindSave then setUndoStep u (.data h []) s
    else if h.kind = kindReleased ∧ releasedTest u.walkDepth h then setUndoStep u (.void h) s
    else undoBad u s
  else undoBad u s

/-- R82: what a DROP does with the header of the top marker. -/
def judgeMarker (u : UndoWork) (h : SlotHeader) (s : State) : State :=
  if headerTest s.engine.epoch (s.engine.fill - 1) h ∧ markerTest u.walkDepth h then
    setUndoStep u (.void h) s
  else undoBad u s

/-- R78: the SAVE slot at k is removed: fill, the granule's level and the count change together. -/
def removeSave (h : SlotHeader) (s : State) : State :=
  let s := setLevel h.subject.toNat (levelByte h) (setFill (s.engine.fill - 1) s)
  { s with engine := { s.engine with undoCount := s.engine.undoCount + 1 } }

/-- R79: the RELEASED slot at k is removed. -/
def removeReleased (s : State) : State := setFill (s.engine.fill - 1) s

/-- R82: the top marker is removed. -/
def removeMarker (s : State) : State := popStack (setFill (s.engine.fill - 1) s)

/-- R75, R81, R82, R89: what follows a removal of the walk. -/
def afterRemoval (u : UndoWork) (s : State) : State :=
  if u.disarm then undoAborted s
  else if s.engine.fill ≤ u.target then
    if u.drop then setUndoStep u (.header []) s else enterActive (undoNormal s)
  else setUndoStep u (.header []) s

/-- R78, R79, R82: the VOID write of the slot in progress has completed. -/
def voidDone (u : UndoWork) (h : SlotHeader) (s : State) : State :=
  if u.target < s.engine.fill then
    afterRemoval u (if h.kind = kindSave then removeSave h s else removeReleased s)
  else if u.disarm then undoAborted (removeMarker s)
  else enterActive (undoNormal (removeMarker s))

/-- One access of UNDOING has completed (R76 to R82). -/
def advanceUndoing (v : Half) (u : UndoWork) (s : State) : State :=
  match u.step with
  | .header got =>
    let got := got ++ [v]
    if got.length < 6 then setUndoStep u (.header got) s
    else if u.target < s.engine.fill then judgeWalk u (slotHeaderOf got) s
    else judgeMarker u (slotHeaderOf got) s
  | .data h got =>
    let got := got ++ [v]
    if got.length < 16 then setUndoStep u (.data h got) s
    else if saveTest s.engine.base s.engine.slots h got then setUndoStep u (.restore h got 0) s
    else undoBad u s
  | .restore h data done =>
    if done + 1 < 16 then setUndoStep u (.restore h data (done + 1)) s
    else setUndoStep u (.void h) s
  | .void h => voidDone u h s

/-- R89: a slot is in progress from its first header read, taken as begun at that read's grant (log 14). -/
def slotInProgress (u : UndoWork) (s : State) : Bool :=
  u.step != .header [] || s.port.servesEngine

/-! ## SCANNING -/

/-- R111: what the tests of the newer valid copy decide. -/
inductive HeadOutcome where
  | badHead
  | notArmed
  | broken
  | armed
  deriving DecidableEq, Repr

/-- R111: the eight entries of a head's table copy, `none` when one fails the range tests. -/
def headTable (ws : List Half) : Option (Vector Region 8) :=
  match headRegionOf ws 0, headRegionOf ws 1, headRegionOf ws 2, headRegionOf ws 3,
        headRegionOf ws 4, headRegionOf ws 5, headRegionOf ws 6, headRegionOf ws 7 with
  | some r0, some r1, some r2, some r3, some r4, some r5, some r6, some r7 =>
    some #v[r0, r1, r2, r3, r4, r5, r6, r7]
  | _, _, _, _, _, _, _, _ => none

/-- R111: an enabled JOURNAL entry of a table shares a byte with the area. -/
def tableOverlaps (base slots : Nat) (t : Vector Region 8) : Bool :=
  t.toList.any (overlapsArea base slots)

/-- R111: the tests of the newer valid copy, in their order. -/
def headOutcome (base : Nat) (ws : List Half) : HeadOutcome :=
  let slots := headSlotsOf ws
  let st := headStateOf ws
  if slots < 16 ∨ 8192 < slots then .badHead
  else if st ≠ stateArmed ∧ st ≠ stateBroken ∧ st ≠ stateDisarmed then .badHead
  else if headEpochOf ws = 0#16 then .badHead
  else if ¬ areaFits base slots then .badHead
  else
    match headTable ws with
    | none => .badHead
    | some t =>
      if st ≠ stateDisarmed ∧ tableOverlaps base slots t then .badHead
      else if st = stateDisarmed then .notArmed
      else if st = stateBroken then .broken
      else .armed

/-- R112: S, the region table and the epoch restored from a head. -/
def restoreHead (ws : List Half) (s : State) : State :=
  let s := setEpoch (headEpochOf ws) (setAreaValues s.engine.base (headSlotsOf ws) s)
  { s with regions := { s.regions with entries := (headTable ws).getD s.regions.entries } }

def setResume (o : ResumeOutcome) (r : StopReason) (s : State) : State :=
  { s with engine := { s.engine with resumeOutcome := o, resumeStop := r } }

/-- R113: the resume ends in OFF without a scan. -/
def resumeOff (o : ResumeOutcome) (s : State) : State :=
  endInOff (raise .resumeEnd (setResume o .none s))

/-- R111 to R114: the end of the head phase over the newer valid copy. -/
def takeHead (autoUndo : Bool) (level : Nat) (ws : List Half) (s : State) : State :=
  match headOutcome s.engine.base ws with
  | .badHead => resumeOff .badHead s
  | .notArmed => resumeOff .notArmed (restoreHead ws s)
  | .broken => endInBroken (raise .resumeEnd (setResume .broken .none (restoreHead ws s)))
  | .armed => resolveHeld (setMode (.scanning autoUndo level (.header [])) (restoreHead ws s))

/-- R111, R112: the 64 head reads are done. -/
def headPhaseEnd (autoUndo : Bool) (level : Nat) (got : List Half) (s : State) : State :=
  let a := got.take 32
  let b := got.drop 32
  let s := takeHeadChoice a b s
  match newerCopy a b with
  | none => resumeOff .noHead s
  | some .a => takeHead autoUndo level a s
  | some .b => takeHead autoUndo level b s

/-- R119, R120, R70: the end of a resume that has scanned. -/
def resumeEnd (autoUndo : Bool) (reason : StopReason) (s : State) : State :=
  let s := raise .resumeEnd (setResume .resumed reason s)
  if autoUndo then
    let s := if s.engine.undoPending then raise .requestMerged (setUndoPending false s) else s
    let s := enterUndoing false s
    if atTarget s then enterActive (undoNormal s) else resolveHeld s
  else enterActive s

/-- R119, R106: the scan has stopped with fill f; the slots from f upward are voided, if there are any. -/
def scanStop (autoUndo : Bool) (level : Nat) (reason : StopReason) (s : State) : State :=
  if s.engine.fill < s.engine.slots then
    setMode (.scanning autoUndo level (.voiding s.engine.fill reason)) s
  else resumeEnd autoUndo reason s

/-- R115: after slot fill − 1 has been accepted, the next slot, or END at S. -/
def scanNext (autoUndo : Bool) (level : Nat) (s : State) : State :=
  if s.engine.fill < s.engine.slots then
    setMode (.scanning autoUndo level (.header [])) s
  else scanStop autoUndo level .atEnd s

/-- R116: a valid SAVE is accepted at the running level; a subject above 32767 names no granule. -/
def acceptSave (level : Nat) (h : SlotHeader) (s : State) : State :=
  let s := setFill (s.engine.fill + 1) s
  if h.subject.toNat ≤ 32767 then setLevel h.subject.toNat level s else s

/-- R117: a valid MARKER, tested on its number. Fill rises at the acceptance, as R109, R116, R117 and R119 have it,
where R58's table sets it at the end of the scan (DEDUCED, log 25). -/
def scanMarker (autoUndo : Bool) (level : Nat) (h : SlotHeader) (s : State) : State :=
  if level < 4 ∧ levelByte h = level + 1 then
    let k := s.engine.fill + 1
    scanNext autoUndo (level + 1) (pushStack k h.subject (setFill k s))
  else scanStop autoUndo level .number s

/-- R118: a valid RELEASED slot, tested on its number. -/
def scanReleased (autoUndo : Bool) (level : Nat) (h : SlotHeader) (s : State) : State :=
  if level + 1 ≤ levelByte h ∧ levelByte h ≤ 4 then
    scanNext autoUndo level (setFill (s.engine.fill + 1) s)
  else scanStop autoUndo level .number s

/-- R115: the header of slot k = fill has been read. -/
def scanHeader (autoUndo : Bool) (level : Nat) (h : SlotHeader) (s : State) : State :=
  if h.epoch ≠ s.engine.epoch then scanStop autoUndo level .epoch s
  else if h.sequence.toNat ≠ s.engine.fill then scanStop autoUndo level .sequence s
  else if h.kind = kindSave then setMode (.scanning autoUndo level (.data h [])) s
  else if ¬ headerCheckOk h [] then scanStop autoUndo level .check s
  else if h.kind = kindMarker then scanMarker autoUndo level h s
  else scanReleased autoUndo level h s

/-- R115: the kind of slot k has been read. -/
def scanKind (autoUndo : Bool) (level : Nat) (v : Half) (s : State) : State :=
  if v = kindVoid then scanStop autoUndo level .void s
  else if isEntryKind v then setMode (.scanning autoUndo level (.header [v])) s
  else scanStop autoUndo level .kind s

/-- R115, R116: the data of a SAVE slot have been read. -/
def scanData (autoUndo : Bool) (level : Nat) (h : SlotHeader) (data : List Half) (s : State) : State :=
  if headerCheckOk h data then scanNext autoUndo level (acceptSave level h s)
  else scanStop autoUndo level .check s

/-- One access of SCANNING has completed (R110 to R119, R106). -/
def advanceScanning (v : Half) (autoUndo : Bool) (level : Nat) (step : ScanStep) (s : State) : State :=
  match step with
  | .heads got =>
    let got := got ++ [v]
    if got.length < 64 then setMode (.scanning autoUndo level (.heads got)) s
    else headPhaseEnd autoUndo level got s
  | .header [] => scanKind autoUndo level v s
  | .header (k :: rest) =>
    let got := (k :: rest) ++ [v]
    if got.length < 6 then setMode (.scanning autoUndo level (.header got)) s
    else scanHeader autoUndo level (slotHeaderOf got) s
  | .data h got =>
    let got := got ++ [v]
    if got.length < 16 then setMode (.scanning autoUndo level (.data h got)) s
    else scanData autoUndo level h got s
  | .voiding k reason =>
    if k + 1 < s.engine.slots then setMode (.scanning autoUndo level (.voiding (k + 1) reason)) s
    else resumeEnd autoUndo reason s

/-! ## Completions -/

/-- R139: the engine's access has completed with the halfword `v` found at its grant, and its operation
advances. -/
def advance (v : Half) (s : State) : State :=
  match s.engine.mode with
  | .off => s
  | .arming step => advanceArming v step s
  | .active => s
  | .saving w => advanceSaving v w s
  | .marking label done => advanceMarking label done s
  | .releasing step => advanceReleasing step s
  | .undoing u => advanceUndoing v u s
  | .committing epoch step => advanceCommitting epoch step s
  | .disarming step => advanceDisarming step s
  | .recording w => advanceRecording w s
  | .breaking step => advanceBreaking step s
  | .broken => s
  | .halted => s
  | .scanning autoUndo level step => advanceScanning v autoUndo level step s

/-- R31: every level 0. -/
def clearMap (s : State) : State := { s with touch := [] }

/-- R31, R45, R95, R100, R53: a clear sweep has completed; `none` when the engine makes none. -/
def clearSweep (s : State) : Option State :=
  match s.engine.mode with
  | .arming (.build epoch .sweep) =>
    some (setMode (.arming (.build epoch (buildAfterSweep epoch s))) (clearMap s))
  | .committing epoch .sweep =>
    some (setMode (.committing epoch (buildAfterSweep epoch s)) (clearMap s))
  | .disarming .sweep =>
    some (setMode (.disarming (.writeHead (newHeadWrite stateDisarmed s.engine.epoch s))) (clearMap s))
  | .breaking .sweep => some (endInBroken (clearMap s))
  | _ => none

/-- R30, R63: the relabel sweep of RELEASING has completed; `none` when the engine makes none. -/
def relabelSweep (s : State) : Option State :=
  match s.engine.mode with
  | .releasing .sweep =>
    some (setMode (.releasing .writeKind)
      { s with touch := TouchMap.relabel s.touch s.engine.depth })
  | _ => none

end Sys2Proof.Machine
end

