-- ==== Sys2Proof/Machine/EngineEvents.lean ====
section
/-! DEFINITION. The engine's own completions: ENGINE_ACCESS_COMPLETE, CLEAR_SWEEP_COMPLETE,
RELABEL_SWEEP_COMPLETE (R139, R31, R30). -/

namespace Sys2Proof.Machine

/-- ENGINE_ACCESS_COMPLETE (R139). It is the completion of an engine access in progress at the memory
port, and nothing otherwise (log 5). -/
def execEngineAccessComplete (s : State) : Host.Outcome State Fault Refusal :=
  .next (
    match s.power, s.port.busy with
    | .running, some b =>
      if b.who = .engine then settle (advance b.seen (releasePort .engine s)) else s
    | _, _ => s)

/-- CLEAR_SWEEP_COMPLETE (R31). With no clear sweep in progress none completes (log 5). -/
def execClearSweepComplete (s : State) : Host.Outcome State Fault Refusal :=
  .next (
    if s.power = .running then
      match clearSweep s with
      | some t => settle t
      | none => s
    else s)

/-- RELABEL_SWEEP_COMPLETE (R30). With no relabel sweep in progress none completes (log 5). -/
def execRelabelSweepComplete (s : State) : Host.Outcome State Fault Refusal :=
  .next (
    if s.power = .running then
      match relabelSweep s with
      | some t => settle t
      | none => s
    else s)

end Sys2Proof.Machine
end

