-- ==== Sys2Proof/Machine/HostBus.lean ====
section
/-! DEFINITION. The host bus commands: HOST_ACCESS_ARRIVE, HOST_CYCLE_END, FORWARD_COMPLETE,
HOLD_TIMER_EXPIRE (chapter 8). -/

namespace Sys2Proof.Machine

/-- The host's cycle as the port sees it. -/
def setCycle (b : Bool) (s : State) : State := { s with host := { s.host with cycle := b } }

/-- R124: the access with the values sampled at its arrival, in progress with RDY low. -/
def arrivedAccess (addr : HalfAddr) (dir : Direction) (lanes : Lanes) (data : Half) : HostAccess :=
  { addr := addr, dir := dir, lanes := lanes, data := data, stage := .forwarding, timer := none,
    watch := none, abandoned := false }

/-- R124: the access is in progress, RDY low. -/
def takeArrival (a : HostAccess) (s : State) : State :=
  { s with host := { s.host with access := some a, rdy := false } }

/-- R124: nOE and nWE together are answered at once, unclassified, with a bus error. With neither lane
enabled R126 has it completed instead, and which rule holds is a free value (log 4). What D[15:0] carries
is a free value (log 3). -/
def bothStrobesAnswer (lane : Bool) (s : State) : State :=
  { s with host := { s.host with
                       rdy := true
                       nBerr := !(lane || Config.bothStrobesNoLaneRefused s.freeCount)
                       dout := Config.bothStrobesData s.freeCount }
           freeCount := s.freeCount + 1 }

/-- R126: neither lane enabled: answered completed at once, FFFFh for a read. -/
def noLaneAnswer (reads : Bool) (s : State) : State :=
  { s with host := { s.host with rdy := true, nBerr := true
                                 dout := if reads then some 0xFFFF#16 else none } }

/-- R127: a read or write with a lane enabled is classified at its arrival and treated. -/
def arriveClassified (a : HostAccess) (s : State) : State :=
  let s := takeArrival a s
  settle (treat (classify s a.addr a.dir) a s)

/-- R124, R126, R127: an arrival that the port takes. -/
def arrive (addr : HalfAddr) (strobes : Strobes) (lower upper : Bool) (data : Half) (s : State) :
    State :=
  match strobes with
  | .both => bothStrobesAnswer (lower || upper) s
  | .read =>
    if lower || upper then
      arriveClassified (arrivedAccess addr .read { lower := lower, upper := upper } data) s
    else noLaneAnswer true s
  | .write =>
    if lower || upper then
      arriveClassified (arrivedAccess addr .write { lower := lower, upper := upper } data) s
    else noLaneAnswer false s

/-- HOST_ACCESS_ARRIVE. A cycle already asserted cannot be asserted again (log 5). While an access is in
progress, or the part does not run, the cycle is seen asserted and nothing is taken (R124, R137). -/
def execHostAccessArrive (addr : HalfAddr) (strobes : Strobes) (lower upper : Bool) (data : Half)
    (s : State) : Host.Outcome State Fault Refusal :=
  .next (
    if s.host.cycle then s
    else if s.power ≠ .running ∨ s.host.access.isSome then setCycle true s
    else arrive addr strobes lower upper data (setCycle true s))

/-- R125, R124, R137: the end of the cycle. Before the answer the access goes on without it; after the
answer the port stops driving D[15:0] and returns nBERR high, but keeps it low while nRST is low. -/
def endCycle (h : HostPort) (p : Power) : HostPort :=
  match p with
  | .unpowered => { h with cycle := false }
  | .reset => { h with cycle := false, dout := none }
  | .running =>
    match h.access with
    | some a => { h with cycle := false, access := some { a with abandoned := true } }
    | none => { h with cycle := false, nBerr := true, dout := none }

/-- HOST_CYCLE_END. With no cycle asserted there is none to end (log 5). -/
def execHostCycleEnd (s : State) : Host.Outcome State Fault Refusal :=
  .next (if s.host.cycle then { s with host := endCycle s.host s.power } else s)

/-- R128: a WATCH record is made at the completion and latches WATCH_HIT. -/
def watchRecord (a : HostAccess) (data : Half) (s : State) : State :=
  match a.watch with
  | none => s
  | some i => raise .watchHit (handRecord a data i.castSucc .passed s)

/-- R136: the forward's memory access has completed, with the halfword `v` found at its grant for a read. -/
def forwardDone (a : HostAccess) (v : Half) (s : State) : State :=
  let read := laneData a.lanes v
  let s := watchRecord a (if a.dir = .read then read else a.data) s
  savingServed (answer true (if a.dir = .read then some read else none) a s)

/-- FORWARD_COMPLETE. It is the completion of a forward in progress at the memory port, and nothing
otherwise (log 5). -/
def execForwardComplete (s : State) : Host.Outcome State Fault Refusal :=
  .next (
    match s.power, s.port.busy, s.host.access with
    | .running, some b, some a =>
      if b.who = .forward then settle (forwardDone a b.seen (releasePort .forward s)) else s
    | _, _, _ => s)

/-- R133: the access's hold timer is running under a limit that expires. -/
def timerRuns (a : HostAccess) : Bool :=
  match a.timer with
  | some limit => limit != 0#8
  | none => false

/-- R134, R135: the access is refused, its forward request withdrawn, and the engine's work goes on. -/
def expireHold (a : HostAccess) (s : State) : State :=
  savingServed (answerRefused a (raise .holdExpired (withdrawForward s)))

/-- HOLD_TIMER_EXPIRE. Without a running timer, or at limit 0, none expires (R133, log 5). -/
def execHoldTimerExpire (s : State) : Host.Outcome State Fault Refusal :=
  .next (
    match s.power, s.host.access with
    | .running, some a => if timerRuns a then settle (expireHold a s) else s
    | _, _ => s)

end Sys2Proof.Machine
end

