-- ==== Sys2Proof/Machine/Lines.lean ====
section
/-! DEFINITION. The request lines: MARK_REQ_EDGE, UNDO_REQ_EDGE, REQUEST_LINE_FALL (R65 to R68). -/

namespace Sys2Proof.Machine

/-- The level at which MARK_REQ is seen (R65). -/
def setMarkLine (b : Bool) (s : State) : State := { s with engine := { s.engine with markLine := b } }

/-- The level at which UNDO_REQ is seen (R65). -/
def setUndoLine (b : Bool) (s : State) : State := { s with engine := { s.engine with undoLine := b } }

/-- R66: a MARK asked for by the line in ACTIVE, with label FFFFh. -/
def markRequest (s : State) : State :=
  match markTest s.engine with
  | .pass => beginMark 0xFFFF#16 s
  | .depth => refuseMarkRequest .depth s
  | .full => refuseMarkRequest .full s

/-- R66 to R68: an edge taken on MARK_REQ with its enable set. -/
def markEdge (s : State) : State :=
  let n := s.engine.mode.name
  if n = .active then markRequest s
  else if n.resting then raise .requestRefused s
  else if s.engine.markPending then raise .requestMerged s
  else setMarkPending true s

/-- R66 to R68: an edge taken on UNDO_REQ with its enable set. -/
def undoEdge (s : State) : State :=
  let n := s.engine.mode.name
  if n = .active then beginUndo false s
  else if n.resting then raise .requestRefused s
  else if s.engine.undoPending then raise .requestMerged s
  else setUndoPending true s

/-- MARK_REQ_EDGE. An edge is taken from a line seen low; with its enable clear it is ignored (R65). While
nRST is low the line is not sampled (R65). -/
def execMarkReqEdge (s : State) : Host.Outcome State Fault Refusal :=
  .next (
    if s.power ≠ .running ∨ s.engine.markLine then s
    else
      let s := setMarkLine true s
      if s.engine.markEnable then settle (markEdge s) else s)

/-- UNDO_REQ_EDGE, as MARK_REQ_EDGE on the other line. -/
def execUndoReqEdge (s : State) : Host.Outcome State Fault Refusal :=
  .next (
    if s.power ≠ .running ∨ s.engine.undoLine then s
    else
      let s := setUndoLine true s
      if s.engine.undoEnable then settle (undoEdge s) else s)

/-- REQUEST_LINE_FALL (R65): the line is seen low, so that its next rise is an edge. -/
def execRequestLineFall (line : Line) (s : State) : Host.Outcome State Fault Refusal :=
  .next (
    if s.power ≠ .running then s
    else
      match line with
      | .mark => setMarkLine false s
      | .undo => setUndoLine false s)

end Sys2Proof.Machine
end

