-- ==== Sys2Proof/Machine/LinkFrames.lean ====
section
/-! DEFINITION. The management link's framing: taking a command (R172, R174), the response (R176), the link
reader's series (R183 to R185), and the framing commands LINK_READ_COMPLETE, LINK_READ_STATUS_DUE,
LINK_SHORT_FRAME, LINK_FRAME_CUT, UNKNOWN_COMMAND, NSS_RISE_AFTER_RELEASE. -/

namespace Sys2Proof.Machine

/-- R37, R186: the link samples its lines. -/
def listening (s : State) : Bool := s.power == .running && !s.link.ignoring

def setFrame (f : Option Frame) (s : State) : State := { s with link := { s.link with frame := f } }

def setReader (r : Option Reader) (s : State) : State := { s with link := { s.link with reader := r } }

/-- R185: a read of the link reader that was granted completes, and its data are discarded. -/
def discardGranted (p : Port) : Port :=
  { p with busy := p.busy.map fun b => if b.who = .link then { b with discard := true } else b }

/-- R185: the link reader's series ends: its waiting request is withdrawn. -/
def endSeries (s : State) : State :=
  match s.link.reader with
  | none => s
  | some _ => setReader none { s with port := discardGranted { s.port with link := none } }

/-- R169: nSS goes low or high. -/
def setSelected (b : Bool) (s : State) : State := { s with link := { s.link with selected := b } }

/-- The frame ends at a rise of nSS (R169), and with it the series (R185). A frame that a later frame follows
has ended so too (log 10). -/
def closeFrame (s : State) : State := setSelected false (setFrame none (endSeries s))

/-- R169: a fall of nSS begins a frame; one that was open has ended. -/
def openFrame (s : State) : State := setSelected true (closeFrame s)

/-- R176, R171: the status, the response data and the response CRC. -/
def responseOf (st : Status) (data : List Byte) : List Byte :=
  (statusByte st :: data) ++ [crc8 (statusByte st :: data)]

/-- R172: the command is answered. -/
def respond (code : Byte) (st : Status) (data : List Byte) (s : State) : State :=
  setFrame (some { code := code, response := some (responseOf st data) }) s

/-- R176: a status other than OK, with response data of zeros. -/
def respondEmpty (code : Byte) (st : Status) (s : State) : State :=
  respond code st (List.replicate (responseBytes code) 0#8) s

/-- The code of a command's bytes. -/
def codeOf (bytes : List Byte) : Byte := bytes.headD 0#8

/-- R169, R172, R174: a new frame takes a command whose CRC byte matches; otherwise it is answered CHECK
and LINK_ERROR is latched. Outside its listening state the link takes nothing. -/
def takeFrame (bytes : List Byte) (crc : Byte) (act : State → State) (s : State) : State :=
  if listening s then
    let s := openFrame s
    if crc8 bytes = crc then act s else respondEmpty (codeOf bytes) .check (raise .linkError s)
  else s

/-- The bytes on SDO of a frame, from the fall of nSS: zeros through the command and the dummy bytes, then
the response; FFh after them (R169). -/
def Frame.sdoBytes (f : Frame) : List Byte :=
  List.replicate (1 + parameterBytes f.code + 1 + dummyBytes f.code) 0#8 ++ f.response.getD []

/-- The byte on SDO at a position of the frame (R169). -/
def Frame.sdoByte (f : Frame) (n : Nat) : Byte := f.sdoBytes.getD n 0xFF#8

/-- The byte on SDO at a position of the present frame: 00h until its command has been taken (R169). -/
def Link.sdoByte (l : Link) (n : Nat) : Byte :=
  match l.frame with
  | some f => f.sdoByte n
  | none => 0x00#8

/-- R169, R186: SDO at bit position n of the present frame, most significant bit of each byte first; `none` when
the link does not drive it: with nSS high, with nSS low since before the release, and while the part does not
run. -/
def State.sdo (s : State) (n : Nat) : Option Bool :=
  if listening s && s.link.selected then some ((s.link.sdoByte (n / 8)).getMsbD (n % 8)) else none

/-! ## The link reader -/

/-- R183: the read of the next halfword of a series. -/
def readerRequest (r : Reader) : Option MemAccess :=
  if r.got.length < r.total then some (readAt (r.start + BitVec.ofNat 19 r.got.length)) else none

/-- R183, R184: a series begins, and its frame waits for it. -/
def beginSeries (code : Byte) (start : HalfAddr) (total : Nat) (s : State) : State :=
  let r : Reader := { start := start, total := total, got := [] }
  let s := setFrame (some { code := code, response := none }) (setReader (some r) s)
  grant { s with port := { s.port with link := readerRequest r } }

/-- R183: a read of the series has completed, and the next halfword is requested. -/
def seriesRead (v : Half) (s : State) : State :=
  match s.link.reader with
  | none => s
  | some r =>
    let r := { r with got := r.got ++ [v] }
    let s := setReader (some r) s
    { s with port := { s.port with link := readerRequest r } }

/-- LINK_READ_COMPLETE (R183, R185). It is the completion of a link reader read in progress at the memory
port, and nothing otherwise (log 5). -/
def execLinkReadComplete (s : State) : Host.Outcome State Fault Refusal :=
  .next (
    match s.power, s.port.busy with
    | .running, some b =>
      if b.who = .link then
        let s := releasePort .link s
        grant (if b.discard then s else seriesRead b.seen s)
      else s
    | _, _ => s)

/-- R183, R184, R191: the response data of a complete series. -/
def readerBytes (r : Reader) : List Byte := r.got.flatMap beBytes

/-- R185: the status byte of an open READ SLOT or READ HEAD. -/
def statusDue (code : Byte) (r : Reader) (s : State) : State :=
  let t := endSeries s
  if r.total ≤ r.got.length then respond code .ok (readerBytes r) t
  else respondEmpty code .busy t

/-- LINK_READ_STATUS_DUE (R185). A frame whose response is already decided sends it (log 5). -/
def execLinkReadStatusDue (s : State) : Host.Outcome State Fault Refusal :=
  .next (
    match s.power, s.link.frame, s.link.reader with
    | .running, some f, some r => if f.response.isNone then statusDue f.code r s else s
    | _, _, _ => s)

/-! ## Framing -/

/-- LINK_SHORT_FRAME (R173): the partial command is discarded and LINK_ERROR latched. -/
def execLinkShortFrame (s : State) : Host.Outcome State Fault Refusal :=
  .next (if listening s then raise .linkError (closeFrame s) else s)

/-- LINK_FRAME_CUT (R169, R176, R185): nSS rises, at any point of the response or after it; the response stops,
SDO is no longer driven, and a series ends. The command stands. -/
def execLinkFrameCut (s : State) : Host.Outcome State Fault Refusal :=
  .next (if listening s then closeFrame s else s)

/-- R175: the answer to a code that names no command, whatever byte follows it. -/
def answerUnknown (code : Byte) (s : State) : State :=
  if listening s then respond code .unknown [] (raise .linkError (openFrame s)) else s

/-- UNKNOWN_COMMAND (R175). A term whose code names a command stands for no step (log 21). -/
def execUnknownCommand (code _next : Byte) (s : State) : Host.Outcome State Fault Refusal :=
  if code ∈ knownCodes then .refused .illFormed else .next (answerUnknown code s)

/-- NSS_RISE_AFTER_RELEASE (R186): nSS rises for the first time since a release that found it low, and the link
leaves its ignoring state. A link that does not ignore has seen nSS high (log 5). -/
def execNssRiseAfterRelease (s : State) : Host.Outcome State Fault Refusal :=
  .next (
    if s.power = .running ∧ s.link.ignoring then
      { s with link := { s.link with selected := false, ignoring := false } }
    else s)

end Sys2Proof.Machine
end

