-- ==== Sys2Proof/Machine/Observe.lean ====
section
/-! DEFINITION. The observation commands of the link and SET OPTIONS (chapter 11.4, 11.5, 11.7): STATUS,
FETCH_CAUSE, CLEAR_CAUSES, SET_CAUSE_LEVEL, SET_THRESHOLD, READ_RECORD, READ_REGION, SET_OPTIONS, READ_SLOT,
READ_HEAD. Each is taken in every engine state (R35). -/

namespace Sys2Proof.Machine

/-- R178, R190: the 35 bytes of STATUS. -/
def statusBytes (s : State) : List Byte :=
  let e := s.engine
  [stateByte e.mode.name, BitVec.ofNat 8 e.depth] ++ beBytes (half e.fill) ++ beBytes (half e.slots)
    ++ beBytes (half e.base) ++ beBytes e.epoch
    ++ checkpointBytes e.stack[0]? ++ checkpointBytes e.stack[1]?
    ++ checkpointBytes e.stack[2]? ++ checkpointBytes e.stack[3]?
    ++ [lineBits e.markPending e.undoPending]
    ++ beBytes (half e.undoCount)
    ++ [undoOutcomeByte e.undoOutcome, resumeOutcomeByte e.resumeOutcome, stopReasonByte e.resumeStop]
    ++ beBytes s.causes.latches ++ [BitVec.ofNat 8 s.records.queue.length]

/-- R178: STATUS is answered OK and changes nothing. -/
def takeStatus (s : State) : State := respond 0x01#8 .ok (statusBytes s) s

/-- STATUS. -/
def execStatus (crc : Byte) (s : State) : Host.Outcome State Fault Refusal :=
  .next (takeFrame (commandBytes (.status crc)) crc takeStatus s)

/-- R160: the response data of FETCH CAUSE: cause number, level, summary. -/
def fetchBytes (number level : Byte) (summary : Half) : List Byte := [number, level] ++ beBytes summary

/-- R160: the chosen cause is returned and its latch cleared; with none chosen nothing is cleared. -/
def takeFetch (s : State) : State :=
  match s.causes.chosen with
  | none => respond 0x02#8 .ok (fetchBytes 0xFF#8 0#8 s.causes.latches) s
  | some n =>
    let t := clearLatches (causeBit n) s
    respond 0x02#8 .ok
      (fetchBytes (BitVec.ofNat 8 n.val) (BitVec.ofNat 8 (s.causes.levels.get n).val)
        t.causes.latches) t

/-- FETCH_CAUSE. -/
def execFetchCause (crc : Byte) (s : State) : Host.Outcome State Fault Refusal :=
  .next (takeFrame (commandBytes (.fetchCause crc)) crc takeFetch s)

/-- R161: the latches named by the mask are cleared, and the summary after the clear returned. -/
def takeClear (mask : Half) (s : State) : State :=
  let t := clearLatches mask s
  respond 0x03#8 .ok (beBytes t.causes.latches) t

/-- CLEAR_CAUSES. -/
def execClearCauses (mask : Half) (crc : Byte) (s : State) : Host.Outcome State Fault Refusal :=
  .next (takeFrame (commandBytes (.clearCauses mask crc)) crc (takeClear mask) s)

/-- R158: one cause's level set; ALERT follows. -/
def setLevelOf (n : Fin 16) (level : Fin 8) (s : State) : State :=
  { s with causes := { s.causes with levels := s.causes.levels.set n level }.follow }

/-- R158: a cause number above 15 or a level above 7 is answered RANGE. -/
def takeCauseLevel (cause level : Byte) (s : State) : State :=
  if hc : cause.toNat < 16 then
    if hl : level.toNat < 8 then
      respond 0x04#8 .ok [] (setLevelOf ⟨cause.toNat, hc⟩ ⟨level.toNat, hl⟩ s)
    else respond 0x04#8 .range [] s
  else respond 0x04#8 .range [] s

/-- SET_CAUSE_LEVEL. -/
def execSetCauseLevel (cause level : Byte) (crc : Byte) (s : State) : Host.Outcome State Fault Refusal :=
  .next (takeFrame (commandBytes (.setCauseLevel cause level crc)) crc (takeCauseLevel cause level) s)

/-- R158: the alert threshold set; ALERT follows. -/
def setThresholdTo (t : Fin 8) (s : State) : State :=
  { s with causes := { s.causes with threshold := t }.follow }

/-- R158: a threshold above 7 is answered RANGE. -/
def takeThreshold (threshold : Byte) (s : State) : State :=
  if h : threshold.toNat < 8 then respond 0x05#8 .ok [] (setThresholdTo ⟨threshold.toNat, h⟩ s)
  else respond 0x05#8 .range [] s

/-- SET_THRESHOLD. -/
def execSetThreshold (threshold : Byte) (crc : Byte) (s : State) : Host.Outcome State Fault Refusal :=
  .next (takeFrame (commandBytes (.setThreshold threshold crc)) crc (takeThreshold threshold) s)

/-- R191: byte 0 of a READ RECORD response. -/
def presenceByte (present overrun : Bool) : Byte :=
  (if present then 0x80#8 else 0#8) ||| (if overrun then 0x40#8 else 0#8)

/-- R167, R191: the ten bytes of READ RECORD. -/
def readRecordBytes (q : RecordQueue) : List Byte :=
  match q.queue with
  | [] => [presenceByte false q.overrun] ++ List.replicate 8 0#8 ++ [0#8]
  | r :: rest => [presenceByte true q.overrun] ++ recordBytes r ++ [BitVec.ofNat 8 rest.length]

/-- R167: the oldest record is removed, if there is one, and the overrun flag cleared. -/
def RecordQueue.pop (q : RecordQueue) : RecordQueue := { q with queue := q.queue.tail, overrun := false }

/-- R167. -/
def takeReadRecord (s : State) : State :=
  respond 0x06#8 .ok (readRecordBytes s.records) { s with records := s.records.pop }

/-- READ_RECORD. -/
def execReadRecord (crc : Byte) (s : State) : Host.Outcome State Fault Refusal :=
  .next (takeFrame (commandBytes (.readRecord crc)) crc takeReadRecord s)

/-- R154: an index above 7 is answered RANGE. -/
def takeReadRegion (index : Byte) (s : State) : State :=
  if h : index.toNat < 8 then
    respond 0x11#8 .ok (regionBytes (s.regions.entries.get ⟨index.toNat, h⟩)) s
  else respondEmpty 0x11#8 .range s

/-- READ_REGION. -/
def execReadRegion (index : Byte) (crc : Byte) (s : State) : Host.Outcome State Fault Refusal :=
  .next (takeFrame (commandBytes (.readRegion index crc)) crc (takeReadRegion index) s)

/-- R180: the four options as they stand: hold limit, policy, high mark, enables. -/
def optionBytes (s : State) : List Byte :=
  [s.host.holdLimit, policyByte s.engine.policy] ++ beBytes (half s.engine.highMark)
    ++ [lineBits s.engine.markEnable s.engine.undoEnable]

/-- R189: a bit of a byte of SET OPTIONS is set. -/
def optionBit (b : Byte) (n : Nat) : Bool := b.getLsbD n

/-- R180, step 1: the select and the selected fields are within their values. -/
def optionsInRange (select policy : Byte) (highMark : Half) (enables : Byte) : Bool :=
  decide (select.toNat ≤ 15)
    && (!optionBit select 1 || decide (policy.toNat ≤ 1))
    && (!optionBit select 2 || decide (highMark.toNat ≤ 8192))
    && (!optionBit select 3 || decide (enables.toNat ≤ 3))

/-- R189: the policy of a policy byte in range. -/
def policyOf (b : Byte) : Policy := if b = 0#8 then .refuse else .breakJournal

/-- R180: the selected fields other than the policy written; JOURNAL_HIGH is evaluated again (R181). -/
def writeOptions (select holdLimit : Byte) (highMark : Half) (enables : Byte) (s : State) : State :=
  renew { s with
    host := { s.host with
      holdLimit := if optionBit select 0 then holdLimit else s.host.holdLimit }
    engine := { s.engine with
      highMark := if optionBit select 2 then highMark.toNat else s.engine.highMark
      markEnable := if optionBit select 3 then optionBit enables 0 else s.engine.markEnable
      undoEnable := if optionBit select 3 then optionBit enables 1 else s.engine.undoEnable } }

def setPolicy (p : Policy) (s : State) : State := { s with engine := { s.engine with policy := p } }

/-- R180: range, then a policy change while busy, then the selected fields. -/
def takeOptions (select holdLimit policy : Byte) (highMark : Half) (enables : Byte) (s : State) :
    State :=
  if ¬ optionsInRange select policy highMark enables then respond 0x13#8 .range (optionBytes s) s
  else
    let t := writeOptions select holdLimit highMark enables s
    if optionBit select 1 ∧ policyOf policy ≠ s.engine.policy then
      if s.engine.mode.name.resting then
        let t := setPolicy (policyOf policy) t
        respond 0x13#8 .ok (optionBytes t) t
      else respond 0x13#8 .busy (optionBytes t) t
    else respond 0x13#8 .ok (optionBytes t) t

/-- SET_OPTIONS. -/
def execSetOptions (select holdLimit policy : Byte) (highMark : Half) (enables : Byte) (crc : Byte)
    (s : State) : Host.Outcome State Fault Refusal :=
  .next (takeFrame (commandBytes (.setOptions select holdLimit policy highMark enables crc)) crc
    (takeOptions select holdLimit policy highMark enables) s)

/-- R183: with S 0 or an index of S or above RANGE, otherwise 22 reads of the slot. -/
def takeReadSlot (index : Half) (s : State) : State :=
  if index.toNat < s.engine.slots then
    beginSeries 0x30#8 (slotAddr s.engine.base index.toNat 0) 22 s
  else respondEmpty 0x30#8 .range s

/-- READ_SLOT. -/
def execReadSlot (index : Half) (crc : Byte) (s : State) : Host.Outcome State Fault Refusal :=
  .next (takeFrame (commandBytes (.readSlot index crc)) crc (takeReadSlot index) s)

/-- R184: 32 reads of copy A or B, whether the area is configured or not. -/
def takeReadHead (copy : Byte) (s : State) : State :=
  if copy = 0#8 then beginSeries 0x31#8 (headAddr s.engine.base .a 0) 32 s
  else if copy = 1#8 then beginSeries 0x31#8 (headAddr s.engine.base .b 0) 32 s
  else respondEmpty 0x31#8 .range s

/-- READ_HEAD. -/
def execReadHead (copy : Byte) (crc : Byte) (s : State) : Host.Outcome State Fault Refusal :=
  .next (takeFrame (commandBytes (.readHead copy crc)) crc (takeReadHead copy) s)

end Sys2Proof.Machine
end

