-- ==== Sys2Proof/Machine/Operate.lean ====
section
/-! DEFINITION. The state-changing commands of the link (R35, R182): ARM, DISARM, MARK, RELEASE, UNDO, COMMIT,
RESUME, SET_AREA, WRITE_REGION. -/

namespace Sys2Proof.Machine

/-- R35: the state test of a command taken in the resting states that `taken` names: BUSY while an operation
runs, STATE in another resting state. -/
def stateTest (taken : StateName → Bool) (n : StateName) : Option Status :=
  if ¬ n.resting then some .busy else if taken n then none else some .state

/-- R177: the state test, and then the command's own tests and effect. -/
def gated (code : Byte) (taken : StateName → Bool) (act : State → State) (s : State) : State :=
  match stateTest taken s.engine.mode.name with
  | some st => respond code st [] s
  | none => act s

/-- A command that begins an operation answers ACCEPTED as the engine enters its state (R35). -/
def accepted (code : Byte) (begins : State → State) (s : State) : State :=
  settle (respond code .accepted [] (begins s))

/-- R43: the area is configured, fits, and no enabled JOURNAL entry overlaps it. -/
def armTest (s : State) : Bool :=
  decide (s.engine.slots ≠ 0) && areaFits s.engine.base s.engine.slots
    && !tableOverlaps s.regions.areaBase s.regions.areaSlots s.regions.entries

/-- R43. -/
def takeArm (s : State) : State :=
  gated 0x20#8 (· == .off)
    (fun s => if armTest s then accepted 0x20#8 beginArm s else respond 0x20#8 .range [] s) s

/-- ARM. -/
def execArm (crc : Byte) (s : State) : Host.Outcome State Fault Refusal :=
  .next (takeFrame (commandBytes (.arm crc)) crc takeArm s)

/-- R85, R89, R99: a DISARM taken in UNDOING ends the undo at its next slot boundary, which is the present event when
no slot is in progress. A second one is answered BUSY. So it is for an undo that R69 has begun at the end of the
one before, where R90 would answer BUSY (DESIGN CHOICE, log 26). -/
def disarmUndo (u : UndoWork) (s : State) : State :=
  if u.disarm then respond 0x21#8 .busy [] s
  else if slotInProgress u s then
    respond 0x21#8 .accepted [] (setMode (.undoing { u with disarm := true }) s)
  else accepted 0x21#8 undoAborted s

/-- R99: the resting states in which DISARM and COMMIT are taken. -/
def restsArmed (n : StateName) : Bool := n == .active || n == .broken || n == .halted

/-- R99; in UNDOING every undo is treated alike (log 26). -/
def takeDisarm (s : State) : State :=
  match s.engine.mode with
  | .undoing u => disarmUndo u s
  | _ => gated 0x21#8 restsArmed (accepted 0x21#8 beginDisarm) s

/-- DISARM. -/
def execDisarm (crc : Byte) (s : State) : Host.Outcome State Fault Refusal :=
  .next (takeFrame (commandBytes (.disarm crc)) crc takeDisarm s)

/-- R59: depth, then space; a MARK answered FULL latches JOURNAL_FULL. -/
def markTested (label : Half) (s : State) : State :=
  match markTest s.engine with
  | .depth => respond 0x22#8 .depth [] s
  | .full => respond 0x22#8 .full [] (raise .journalFull s)
  | .pass => accepted 0x22#8 (beginMark label) s

/-- R59. -/
def takeMark (label : Half) (s : State) : State := gated 0x22#8 (· == .active) (markTested label) s

/-- MARK. -/
def execMark (label : Half) (crc : Byte) (s : State) : Host.Outcome State Fault Refusal :=
  .next (takeFrame (commandBytes (.mark label crc)) crc (takeMark label) s)

/-- R62, R63: RELEASING begins with its relabel sweep. -/
def beginRelease (s : State) : State := reclassifyWaiting (setMode (.releasing .sweep) s)

/-- R62: the base cannot be released. -/
def takeRelease (s : State) : State :=
  gated 0x23#8 (· == .active)
    (fun s => if s.engine.depth ≤ 1 then respond 0x23#8 .depth [] s
              else accepted 0x23#8 beginRelease s) s

/-- RELEASE. -/
def execRelease (crc : Byte) (s : State) : Host.Outcome State Fault Refusal :=
  .next (takeFrame (commandBytes (.release crc)) crc takeRelease s)

/-- R72, R182: the option, then DROP against depth. -/
def undoTested (option : Byte) (s : State) : State :=
  if option = 0#8 then accepted 0x24#8 (beginUndo false) s
  else if option = 1#8 then
    if s.engine.depth ≤ 1 then respond 0x24#8 .depth [] s
    else accepted 0x24#8 (beginUndo true) s
  else respond 0x24#8 .range [] s

/-- R72. -/
def takeUndo (option : Byte) (s : State) : State := gated 0x24#8 (· == .active) (undoTested option) s

/-- UNDO. -/
def execUndo (option : Byte) (crc : Byte) (s : State) : Host.Outcome State Fault Refusal :=
  .next (takeFrame (commandBytes (.undo option crc)) crc (takeUndo option) s)

/-- R93. -/
def takeCommit (s : State) : State := gated 0x25#8 restsArmed (accepted 0x25#8 beginCommit) s

/-- COMMIT. -/
def execCommit (crc : Byte) (s : State) : Host.Outcome State Fault Refusal :=
  .next (takeFrame (commandBytes (.commit crc)) crc takeCommit s)

/-- R108, R149: the engine leaves OFF for SCANNING. -/
def beginResume (autoUndo : Bool) (s : State) : State := reclassifyWaiting (enterScanning autoUndo s)

/-- R108, R182: the option is tested after the state. -/
def takeResume (option : Byte) (s : State) : State :=
  gated 0x26#8 (· == .off)
    (fun s => if option.toNat ≤ 1 then accepted 0x26#8 (beginResume (option == 1#8)) s
              else respond 0x26#8 .range [] s) s

/-- RESUME. -/
def execResume (option : Byte) (crc : Byte) (s : State) : Host.Outcome State Fault Refusal :=
  .next (takeFrame (commandBytes (.resume option crc)) crc (takeResume option) s)

/-- R150: the tests of SET AREA. -/
def areaTest (base slots : Nat) : Bool :=
  decide (base ≤ 1023) && (decide (slots = 0)
    || (decide (16 ≤ slots ∧ slots ≤ 8192) && areaFits base slots))

/-- R150, R149: the area moved in OFF, and a waiting forward classified afresh, also by a SET AREA that gives the values
in force (DESIGN CHOICE, log 28). -/
def moveArea (base slots : Nat) (s : State) : State :=
  settle (respond 0x12#8 .ok [] (reclassifyWaiting (setAreaValues base slots s)))

/-- R150. -/
def takeSetArea (base slots : Half) (s : State) : State :=
  gated 0x12#8 (· == .off)
    (fun s => if areaTest base.toNat slots.toNat then moveArea base.toNat slots.toNat s
              else respond 0x12#8 .range [] s) s

/-- SET_AREA. -/
def execSetArea (base slots : Half) (crc : Byte) (s : State) : Host.Outcome State Fault Refusal :=
  .next (takeFrame (commandBytes (.setArea base slots crc)) crc (takeSetArea base slots) s)

/-- One region entry written (R147). -/
def setRegion (i : Fin 8) (r : Region) (s : State) : State :=
  { s with regions := { s.regions with entries := s.regions.entries.set i r } }

/-- R55, R8: RECORDING begins, its head write carrying the changed table. -/
def beginRecording (s : State) : State :=
  reclassifyWaiting (setMode (.recording (newHeadWrite stateArmed s.engine.epoch s)) s)

/-- R147, step 5: taken in OFF the entry is written, and answered OK; in ACTIVE RECORDING begins. -/
def regionTaken (i : Fin 8) (r : Region) (s : State) : State :=
  if s.engine.mode = .off then settle (respond 0x10#8 .ok [] (reclassifyWaiting (setRegion i r s)))
  else accepted 0x10#8 beginRecording (setRegion i r s)

/-- R147, steps 2 to 4: index, range, and in ACTIVE the overlap of a JOURNAL entry with the area (R146). -/
def regionTested (index mode : Byte) (base length : Half) (s : State) : State :=
  if h : index.toNat < 8 then
    match regionOf mode.toNat base.toNat length.toNat with
    | none => respond 0x10#8 .range [] s
    | some r =>
      if s.engine.mode = .active ∧ overlapsArea s.regions.areaBase s.regions.areaSlots r then
        respond 0x10#8 .range [] s
      else regionTaken ⟨index.toNat, h⟩ r s
  else respond 0x10#8 .range [] s

/-- R35, R147: WRITE REGION is taken in OFF, and in ACTIVE with fill 0. -/
def regionStates (fill : Nat) (n : StateName) : Bool := n == .off || (n == .active && fill == 0)

/-- R147. -/
def takeWriteRegion (index mode : Byte) (base length : Half) (s : State) : State :=
  gated 0x10#8 (regionStates s.engine.fill) (regionTested index mode base length) s

/-- WRITE_REGION. -/
def execWriteRegion (index mode : Byte) (base length : Half) (crc : Byte) (s : State) :
    Host.Outcome State Fault Refusal :=
  .next (takeFrame (commandBytes (.writeRegion index mode base length crc)) crc
    (takeWriteRegion index mode base length) s)

end Sys2Proof.Machine
end

