-- ==== Sys2Proof/Machine/ResetSupply.lean ====
section
/-! DEFINITION. The reset and supply commands: RESET_ASSERT, RESET_RELEASE, SUPPLY_LOSS (R3, R37, R42, R107,
R137, R142, R163, R168, R186). -/

namespace Sys2Proof.Machine

/-- R137: the access in progress is answered with a bus error, not performed, with no cause and no record.
While nRST is low RDY is high and nBERR low. -/
def hostInReset (h : HostPort) : HostPort :=
  match h.access with
  | none => { h with rdy := true, nBerr := false }
  | some a =>
    { h with access := none, rdy := true, nBerr := false
             dout := if a.dir = .read ∧ ¬ a.abandoned then some 0xFFFF#16 else none }

/-- R37: what the assertion of nRST does at once in every block. The values that the release sets keep
theirs until then (log 8). -/
def enterReset (s : State) : State :=
  let s := cutAccess s
  let s := setMarkPending false (setUndoPending false s)
  { s with
    power := .reset
    touch := []
    host := hostInReset s.host
    causes := State.reset.causes
    records := State.reset.records
    link := { s.link with frame := none, reader := none } }

/-- RESET_ASSERT. With nRST low already there is no assertion (log 5). -/
def execResetAssert (s : State) : Host.Outcome State Fault Refusal :=
  .next (match s.power with
    | .reset => s
    | .running => enterReset s
    | .unpowered => enterReset s)

/-- R42 and every block's values at the release; the request lines are taken at their present levels (R65),
and a low nSS is ignored until it rises (R186). Memory, the host's cycle and the queue stand. -/
def releaseValues (markHigh undoHigh nssLow : Bool) (s : State) : State :=
  { State.reset with
    engine := { Engine.afterReset with markLine := markHigh, undoLine := undoHigh }
    host := { State.reset.host with cycle := s.host.cycle }
    link := { State.reset.link with selected := nssLow, ignoring := nssLow }
    memory := s.memory
    freeCount := s.freeCount
    pending := s.pending }

/-- R107: JSEL[3:0] other than zero places the journal base and begins a resume. -/
def startStraps (jsel : BitVec 4) (autoUndo : Bool) (s : State) : State :=
  if jsel = 0#4 then s
  else settle (enterScanning autoUndo (setAreaValues (64 * jsel.toNat) 0 s))

/-- RESET_RELEASE. With nRST high already there is no release (log 5). -/
def execResetRelease (jsel : BitVec 4) (autoUndo markHigh undoHigh nssLow : Bool) (s : State) :
    Host.Outcome State Fault Refusal :=
  .next (match s.power with
    | .running => s
    | .reset => startStraps jsel autoUndo (releaseValues markHigh undoHigh nssLow s)
    | .unpowered => startStraps jsel autoUndo (releaseValues markHigh undoHigh nssLow s))

/-- SUPPLY_LOSS (R3): the memory access in progress is cut short, and the part does nothing more until
nRST is asserted or released (log 9). -/
def execSupplyLoss (s : State) : Host.Outcome State Fault Refusal :=
  .next (match s.power with
    | .unpowered => s
    | .running => { cutAccess s with power := .unpowered }
    | .reset => { cutAccess s with power := .unpowered })

end Sys2Proof.Machine
end

