-- ==== Sys2Proof/Machine/Dispatch.lean ====
section
/-! DEFINITION. The one match from a command to its meaning. -/

namespace Sys2Proof.Machine

def exec (i : Instr) (s : State) : Host.Outcome State Fault Refusal :=
  match i with
  | .resetAssert => Sys2Proof.Machine.execResetAssert s
  | .resetRelease jsel autoUndo markHigh undoHigh nssLow => Sys2Proof.Machine.execResetRelease jsel autoUndo markHigh undoHigh nssLow s
  | .supplyLoss => Sys2Proof.Machine.execSupplyLoss s
  | .hostAccessArrive addr strobes lower upper data => Sys2Proof.Machine.execHostAccessArrive addr strobes lower upper data s
  | .hostCycleEnd => Sys2Proof.Machine.execHostCycleEnd s
  | .forwardComplete => Sys2Proof.Machine.execForwardComplete s
  | .holdTimerExpire => Sys2Proof.Machine.execHoldTimerExpire s
  | .engineAccessComplete => Sys2Proof.Machine.execEngineAccessComplete s
  | .clearSweepComplete => Sys2Proof.Machine.execClearSweepComplete s
  | .relabelSweepComplete => Sys2Proof.Machine.execRelabelSweepComplete s
  | .linkReadComplete => Sys2Proof.Machine.execLinkReadComplete s
  | .linkReadStatusDue => Sys2Proof.Machine.execLinkReadStatusDue s
  | .markReqEdge => Sys2Proof.Machine.execMarkReqEdge s
  | .undoReqEdge => Sys2Proof.Machine.execUndoReqEdge s
  | .linkShortFrame => Sys2Proof.Machine.execLinkShortFrame s
  | .linkFrameCut => Sys2Proof.Machine.execLinkFrameCut s
  | .unknownCommand code next => Sys2Proof.Machine.execUnknownCommand code next s
  | .status crc => Sys2Proof.Machine.execStatus crc s
  | .fetchCause crc => Sys2Proof.Machine.execFetchCause crc s
  | .clearCauses mask crc => Sys2Proof.Machine.execClearCauses mask crc s
  | .setCauseLevel cause level crc => Sys2Proof.Machine.execSetCauseLevel cause level crc s
  | .setThreshold threshold crc => Sys2Proof.Machine.execSetThreshold threshold crc s
  | .readRecord crc => Sys2Proof.Machine.execReadRecord crc s
  | .writeRegion index mode base length crc => Sys2Proof.Machine.execWriteRegion index mode base length crc s
  | .readRegion index crc => Sys2Proof.Machine.execReadRegion index crc s
  | .setArea base slots crc => Sys2Proof.Machine.execSetArea base slots crc s
  | .setOptions select holdLimit policy highMark enables crc => Sys2Proof.Machine.execSetOptions select holdLimit policy highMark enables crc s
  | .arm crc => Sys2Proof.Machine.execArm crc s
  | .disarm crc => Sys2Proof.Machine.execDisarm crc s
  | .mark label crc => Sys2Proof.Machine.execMark label crc s
  | .release crc => Sys2Proof.Machine.execRelease crc s
  | .undo option crc => Sys2Proof.Machine.execUndo option crc s
  | .commit crc => Sys2Proof.Machine.execCommit crc s
  | .resume option crc => Sys2Proof.Machine.execResume option crc s
  | .readSlot index crc => Sys2Proof.Machine.execReadSlot index crc s
  | .readHead copy crc => Sys2Proof.Machine.execReadHead copy crc s
  | .requestLineFall line => Sys2Proof.Machine.execRequestLineFall line s
  | .nssRiseAfterRelease => Sys2Proof.Machine.execNssRiseAfterRelease s

end Sys2Proof.Machine
end

