-- ==== Sys2Proof/Machine/LinkWire.lean ====
section
/-! DEFINITION. The link's wires bit by bit (R169): which bits of SDI a frame's clock edges sample, and which bit
of the frame's bytes stands on SDO. A command of the table is a whole frame, so no single edge is a command
(log 17); `State.sdo` gives the level of SDO at the position that these edges reach. -/

namespace Sys2Proof.Machine

/-- What the link holds of its input wires: nSS low, the level of SCK, the bits sampled since nSS fell, first
first, and the position of the bit on SDO (R169). -/
structure Wire where
  selected : Bool
  sck : Bool
  sampled : List Bool
  shown : Nat
  deriving DecidableEq, Repr

/-- R169: a fall of nSS begins a frame with its first bit on SDO; a rise ends it. -/
def Wire.setNss (w : Wire) (low : Bool) : Wire :=
  if w.selected = low then w
  else if low then { w with selected := true, sampled := [], shown := 0 }
  else { w with selected := false }

/-- R169: SCK takes a level while SDI carries a bit. A rising edge samples the bit. A falling edge puts on SDO the
bit that follows those sampled, which after a fall of nSS with SCK high is still the first. Edges with nSS high
are ignored. -/
def Wire.clock (w : Wire) (level sdi : Bool) : Wire :=
  if !w.selected || w.sck == level then { w with sck := level }
  else if level then { w with sck := true, sampled := w.sampled ++ [sdi] }
  else { w with sck := false, shown := w.sampled.length }

/-- The wires after a series of SCK levels with the bits on SDI. -/
def Wire.clockAll (w : Wire) (levels : List (Bool × Bool)) : Wire :=
  levels.foldl (fun w e => w.clock e.1 e.2) w

/-- R169: the eight bits of a byte in the order sent, the most significant first. -/
def byteBits (b : Byte) : List Bool := (List.range 8).map fun i => b.getMsbD i

/-- R169: the byte of eight bits in the order sampled. -/
def byteOfBits (bits : List Bool) : Byte := BitVec.ofNat 8 (bits.foldl (fun n b => 2 * n + b.toNat) 0)

/-- R169: eight rising edges make one byte; bits short of a byte make none. -/
def bytesOfBits : List Bool → List Byte
  | b0 :: b1 :: b2 :: b3 :: b4 :: b5 :: b6 :: b7 :: rest =>
    byteOfBits [b0, b1, b2, b3, b4, b5, b6, b7] :: bytesOfBits rest
  | _ => []

/-- The bytes that the link has received since nSS fell (R169). -/
def Wire.bytes (w : Wire) : List Byte := bytesOfBits w.sampled

/-- A master sends bytes: for each bit SCK low with the bit on SDI, then SCK high (R169). -/
def sendBytes (bytes : List Byte) : List (Bool × Bool) :=
  (bytes.flatMap byteBits).flatMap fun b => [(false, b), (true, b)]

end Sys2Proof.Machine
end

