-- ==== Sys2Proof/Safety.lean ====
section
/-! DEFINITION. The terms in which the statements speak: a command taken, its answer, an arrival and its
treatments, the bytes that an access stores to, and the invariants of the part. -/

namespace Sys2Proof.Safety

open Sys2Proof.Machine

/-! ## The link -/

/-- R172: the command's frame arrives at a link that listens, with a matching CRC byte. -/
abbrev Taken (i : Instr) (s : State) : Prop :=
  s.power = .running ∧ s.link.ignoring = false ∧ crcByte i = some (crc8 (commandBytes i))

/-- R172, R176: the frame's command is answered: status, response data, response CRC. -/
def replied (code : Byte) (st : Status) (data : List Byte) (s : State) : State :=
  { s with link := { s.link with
      frame := some { code := code
                      response := some (statusByte st :: data
                        ++ [crc8 (statusByte st :: data)]) } } }

/-- R176: a status with the command's response data as zeros. -/
def repliedZeros (code : Byte) (st : Status) (s : State) : State :=
  replied code st (List.replicate (responseBytes code) 0#8) s

/-- R185: the end of the link reader's series: its waiting request is withdrawn, and the data of a granted
read will be discarded. -/
def seriesEnded (s : State) : State :=
  if s.link.reader.isSome then
    { s with
      link := { s.link with reader := none }
      port := { s.port with
        link := none
        busy := s.port.busy.map (fun b => if b.who = .link then { b with discard := true } else b) } }
  else s

/-- R169, R185: nSS has risen; the frame before has ended, and its series with it (log 10). -/
def frameEnded (s : State) : State :=
  let t := seriesEnded s
  { t with link := { t.link with selected := false, frame := none } }

/-- R169, R185: nSS has fallen again after the frame before, and a new frame is open (log 10). -/
def frameBegun (s : State) : State :=
  let t := seriesEnded s
  { t with link := { t.link with selected := true, frame := none } }

/-- A number in two bytes, most significant first (R169). -/
def twoBytes (n : Nat) : List Byte := [BitVec.ofNat 8 (n / 256), BitVec.ofNat 8 n]

/-- R189: the codes of the commands that the table of R35 lists, SET OPTIONS apart. -/
def operationCodes : List Byte :=
  [0x10#8, 0x12#8, 0x20#8, 0x21#8, 0x22#8, 0x23#8, 0x24#8, 0x25#8, 0x26#8]

/-- R35: the resting states in which a command is taken, by its code; `fill` decides for WRITE REGION. -/
def takenIn (code : Byte) (fill : Nat) (n : StateName) : Bool :=
  if code = 0x20#8 ∨ code = 0x26#8 ∨ code = 0x12#8 then n == .off
  else if code = 0x10#8 then n == .off || (n == .active && fill == 0)
  else if code = 0x22#8 ∨ code = 0x23#8 ∨ code = 0x24#8 then n == .active
  else n == .active || n == .broken || n == .halted

/-- R89: a DISARM has been taken in the present undo. -/
def disarmTaken (m : Mode) : Bool :=
  match m with
  | .undoing u => u.disarm
  | _ => false

/-! ## Host accesses -/

/-- R124: the port takes the next arrival. -/
abbrev Ready (s : State) : Prop := s.power = .running ∧ s.host.cycle = false ∧ s.host.access = none

/-- R124: an access in progress with RDY low. -/
def inProgress (a : HostAccess) (s : State) : State :=
  { s with host := { s.host with cycle := true, rdy := false, access := some a } }

/-- R136: an access in progress whose forward waits at the memory port. -/
def forwardWaits (a : HostAccess) (s : State) : State :=
  { inProgress a s with
    port := { s.port with
      forward := some { addr := a.addr
                        data := if a.dir = .write then some a.data else none
                        lanes := a.lanes } } }

/-- R125: refused: a bus error, and FFFFh for a read whose cycle still stands. -/
def refused (a : HostAccess) (s : State) : State :=
  { s with host := { s.host with
      access := none, rdy := true, nBerr := a.abandoned
      dout := if a.abandoned then none else if a.dir = .read then some 0xFFFF#16 else none } }

/-- R165, R166: an access record handed to the queue. -/
def recorded (a : HostAccess) (data : Half) (region : Fin 9) (outcome : RecordOutcome) (s : State) :
    State :=
  if s.records.queue.length < 8 then
    { s with records := { s.records with
        nextSequence := s.records.nextSequence + 1
        queue := s.records.queue ++
          [{ sequence := s.records.nextSequence, addr := a.addr, dir := a.dir, lanes := a.lanes,
             data := data, region := region, outcome := outcome }] } }
  else
    raise .recordOverrun { s with records := { s.records with
      nextSequence := s.records.nextSequence + 1, overrun := true } }

/-- An arrival with its sampled values, before it is treated. -/
def sampled (addr : HalfAddr) (dir : Direction) (lanes : Lanes) (data : Half) (stage : Stage)
    (timer : Option Byte) (watch : Option (Fin 8)) : HostAccess :=
  { addr := addr, dir := dir, lanes := lanes, data := data, stage := stage, timer := timer,
    watch := watch, abandoned := false }

/-- The strobe of a direction (R124). -/
def strobeOf : Direction → Strobes
  | .read => .read
  | .write => .write

/-- R140: no access is in progress at the memory port, and no request waits there. -/
abbrev PortEmpty (s : State) : Prop :=
  s.port.busy = none ∧ s.port.forward = none ∧ s.port.engine = none ∧ s.port.link = none

/-! ## Memory -/

/-- Byte `a` lies on an enabled lane of the halfword of `x`, and `x` is a write. -/
def storesTo (x : MemAccess) (a : Nat) : Bool :=
  x.data.isSome &&
    ((x.lanes.lower && a == 2 * x.addr.toNat) || (x.lanes.upper && a == 2 * x.addr.toNat + 1))

/-- Byte `a` lies in the halfword of a write in progress at the memory port. -/
def writeUnderWay (s : State) (a : Nat) : Bool :=
  match s.port.busy with
  | none => false
  | some b => b.access.data.isSome && a / 2 == b.access.addr.toNat

/-- A write of the host is in progress at the memory port. -/
def hostWriteUnderWay (s : State) : Bool :=
  match s.port.busy with
  | none => false
  | some b => b.who == .forward && b.access.data.isSome

/-! ## The engine -/

/-- R139: an access of the engine is in progress, and found the halfword `v` at its grant. -/
abbrev EngineAccess (s : State) (v : Half) : Prop :=
  s.power = .running ∧ s.port.busy.map PortBusy.who = some .engine ∧
    s.port.busy.map PortBusy.seen = some v

/-- R49: the save's kind write has completed, and the engine waits for the end of the write it served. -/
def saveStored (m : Mode) : Bool :=
  match m with
  | .saving w => decide (39 ≤ w.done)
  | _ => false

/-- R8: the next write of a head record. -/
def nextWrite (w : HeadWrite) : HeadWrite := { w with done := w.done + 1 }

/-- R7: the engine's head sequence and current copy after a check write. -/
def headTaken (w : HeadWrite) (s : State) : State :=
  { s with engine := { s.engine with
      headSequence := s.engine.headSequence + 1, current := some w.copy } }

/-- R56: the base checkpoint. -/
def base : Checkpoint := { position := 0, label := 0#16, number := 1 }

/-- R140: the port after the completion of an access. -/
def portFreed (who : Requester) (s : State) : State :=
  { s with port := { s.port with busy := none, last := who } }

/-! ## Invariants -/

/-- The memory holds its canonical form. -/
abbrev MemoryForm (s : State) : Prop := Memory.wf s.memory

/-- R155, R159: ALERT is asserted exactly when some latched cause has a level above the threshold. -/
abbrev AlertLaw (s : State) : Prop :=
  s.causes.alert = true ↔
    ∃ n : Fin 16, s.causes.latches.getLsbD n.val = true ∧ s.causes.threshold < s.causes.levels.get n

/-- R157: while the part runs, a level cause whose condition holds is latched. -/
abbrev LevelLaw (s : State) : Prop :=
  s.power = .running →
    (s.engine.mode = .halted → s.causes.latches.getLsbD 1 = true) ∧
    (1 ≤ s.engine.highMark ∧ s.engine.highMark ≤ 8192 ∧ s.engine.highMark ≤ s.engine.fill →
      s.causes.latches.getLsbD 12 = true)

/-- R145: the range tests of an entry. -/
abbrev inRange (r : Region) : Prop :=
  r.base ≤ 1023 ∧ 1 ≤ r.length ∧ r.length ≤ 1024 ∧ r.base + r.length ≤ 1024

/-- R1, R41, R145, R150, R166: the ranges of the area, the high mark, the region table, the region block's
copy of the area, and the record queue. -/
abbrev BlockLaws (s : State) : Prop :=
  s.records.queue.length ≤ 8 ∧
  (∀ i : Fin 8, inRange (s.regions.entries.get i)) ∧
  s.regions.areaBase = s.engine.base ∧ s.regions.areaSlots = s.engine.slots ∧
  s.engine.base ≤ 1023 ∧
  (s.engine.slots = 0 ∨ (16 ≤ s.engine.slots ∧ s.engine.slots ≤ 8192 ∧
    s.engine.base * 1024 + 128 + 44 * s.engine.slots ≤ 1048576)) ∧
  s.engine.highMark ≤ 8192

/-- What the work in progress requires of fill and the stack. -/
def workFits (e : Engine) : Bool :=
  match e.mode with
  | .saving w => decide (w.done ≤ 38 → e.fill < e.slots)
  | .marking _ _ => decide (e.stack.length ≤ 3 ∧ e.fill < e.slots)
  | .releasing _ => decide (2 ≤ e.stack.length)
  | .undoing u =>
    decide (u.target = e.topPosition ∧ u.walkDepth = e.stack.length
      ∧ (u.drop = true → 2 ≤ e.stack.length) ∧ (u.drop = false → u.target < e.fill))
    && (match u.step with
        | .header _ => true
        | .data _ _ => decide (u.target < e.fill)
        | .restore _ _ _ => decide (u.target < e.fill)
        | .void _ => true)
  | .scanning _ level step =>
    decide (level = e.stack.length)
    && (match step with
        | .heads _ => decide (e.fill = 0)
        | .header _ => decide (e.fill < e.slots)
        | .data _ _ => decide (e.fill < e.slots)
        | .voiding _ _ => true)
  | .off => true
  | .arming _ => true
  | .active => true
  | .committing _ _ => true
  | .disarming _ => true
  | .recording _ => true
  | .breaking _ => true
  | .broken => true
  | .halted => true

/-- R38, R56, R57: fill, depth and the checkpoint stack. -/
abbrev StackLaws (s : State) : Prop :=
  (s.engine.mode = .off ∨ s.engine.mode = .broken → s.engine.fill = 0 ∧ s.engine.stack = []) ∧
  (s.engine.mode ≠ .off ∧ s.engine.mode ≠ .broken →
    s.engine.stack.head? = some { position := 0, label := 0#16, number := 1 } ∧
    s.engine.stack.length ≤ 4 ∧
    s.engine.stack.map Checkpoint.number = (List.range s.engine.stack.length).map (· + 1) ∧
    (s.engine.stack.map Checkpoint.position).Pairwise (· < ·) ∧
    s.engine.topPosition ≤ s.engine.fill ∧ s.engine.fill ≤ s.engine.slots) ∧
  workFits s.engine = true

/-- R36, R71: no line request is pending in a resting state. -/
abbrev PendingLaw (s : State) : Prop :=
  s.engine.mode.name.resting = true → s.engine.markPending = false ∧ s.engine.undoPending = false

/-- R77: the slot that an undo writes back names a granule, and its prior level is at most 3. -/
def restoreFits (m : Mode) : Bool :=
  match m with
  | .undoing u =>
    (match u.step with
     | .restore h _ _ => decide (h.subject.toNat ≤ 32767 ∧ levelByte h ≤ 3)
     | .void h => decide (h.kind = kindSave → h.subject.toNat ≤ 32767 ∧ levelByte h ≤ 3)
     | .header _ => true
     | .data _ _ => true)
  | _ => true

/-- R21: the touch map holds a level 0 to 4 for each of the 32768 granules. -/
abbrev TouchLaw (s : State) : Prop :=
  TouchMap.wf s.touch ∧ (∀ e ∈ s.touch, e.2 ≤ 4) ∧ restoreFits s.engine.mode = true

/-- R39, R103: the epoch that the work in progress will bring into force is not 0. -/
def epochFits (m : Mode) (epoch : Half) : Bool :=
  match m with
  | .off => true
  | .arming (.readHeads _) => true
  | .arming (.build e _) => e != 0#16
  | .scanning _ _ (.heads _) => true
  | .committing e _ => e != 0#16 && epoch != 0#16
  | _ => epoch != 0#16

/-- R103: outside OFF, ARMING and the head phase the current epoch lies from 1 to 65535. -/
abbrev EpochLaw (s : State) : Prop := epochFits s.engine.mode s.engine.epoch = true

/-- R146: in every armed state, the head phase apart, no enabled JOURNAL entry shares a byte with the
area. -/
abbrev OverlapLaw (s : State) : Prop :=
  s.engine.mode ≠ .off → s.engine.mode.headPhase = false →
    ∀ i : Fin 8, overlapsArea s.engine.base s.engine.slots (s.regions.entries.get i) = false

/-- The forward that the host access in progress waits for. -/
def hostForward (h : HostPort) : Option MemAccess :=
  match h.access with
  | none => none
  | some a => if a.stage = .forwarding then some (forwardAccess a) else none

/-- The request that the link reader has to make next. -/
def linkWanted (l : Link) : Option MemAccess :=
  match l.reader with
  | none => none
  | some r => readerRequest r

/-- The access in progress is the one that its requester asked for. -/
def busyFits (s : State) : Bool :=
  match s.port.busy with
  | none => s.port.forward.isNone && s.port.engine.isNone && s.port.link.isNone
  | some b =>
    match b.who with
    | .forward =>
      !b.discard && (match s.host.access with
        | none => false
        | some a => a.stage == .granted && forwardAccess a == b.access)
    | .engine => !b.discard && s.engine.wanted == some b.access
    | .link =>
      b.discard || (s.port.link.isNone && linkWanted s.link == some b.access)

/-- The link reader's read is the one in progress at the port and still belongs to the series. -/
def servesReader (p : Port) : Bool :=
  match p.busy with
  | none => false
  | some b => b.who == .link && !b.discard

/-- R139, R140, R169, R186: each requester has at most one request waiting, and it is the one that its owner has to
make next; an idle port has none waiting; a granted access runs no hold timer; a series runs in an open frame;
the link sees nSS low while a frame is open or while it ignores one; and a link that ignores has no frame open. -/
abbrev PortLaw (s : State) : Prop :=
  s.power = .running →
    busyFits s = true ∧
    s.port.forward = hostForward s.host ∧
    s.port.engine = (if s.port.servesEngine then none else s.engine.wanted) ∧
    s.port.link = (if servesReader s.port then none else linkWanted s.link) ∧
    (∀ a ∈ s.host.access, a.stage = .granted →
      a.timer = none ∧ ∃ b ∈ s.port.busy, b.who = .forward) ∧
    (s.link.reader.isSome = true → ∃ f ∈ s.link.frame, f.response = none) ∧
    s.link.selected = (s.link.ignoring || s.link.frame.isSome) ∧
    (s.link.ignoring = true → s.link.frame = none)

/-- A host write whose forward waits at the memory port. -/
def waitingWrite (s : State) : Option HalfAddr :=
  match s.port.forward with
  | none => none
  | some x => if x.data.isSome then some x.addr else none

/-- R129: a JOURNAL entry decides an access at a halfword address (R127). -/
def journaled (s : State) (a : HalfAddr) : Bool :=
  !(decide (s.engine.mode ≠ .off) && inArea s.engine.base s.engine.slots (2 * a.toNat)) &&
    match decisive s.regions.entries (2 * a.toNat) with
    | none => false
    | some i => (s.regions.entries.get i).mode == .journal

/-- R49, R53: an access held for a save has that save under way, and the trigger of a break has its
break. -/
def holdFits (m : Mode) (a : HostAccess) : Bool :=
  match a.stage, m with
  | .held .save, .saving w => decide (w.done ≤ 38)
  | .held .save, _ => false
  | .held .breakEnd, .breaking _ => true
  | .held .breakEnd, _ => false
  | _, _ => true

/-- R151: outside OFF, a host write that waits for its grant, or that will be sent forward without a new
classification, lies outside the area; and no forward waits in the head phase. -/
abbrev ShieldLaw (s : State) : Prop :=
  (∀ a ∈ s.host.access, holdFits s.engine.mode a = true ∧
    (a.stage = .held .save ∨ a.stage = .held .breakEnd →
      inArea s.engine.base s.engine.slots (2 * a.addr.toNat) = false)) ∧
  (s.power = .running → s.engine.mode ≠ .off →
    (waitingWrite s).all (fun a => !inArea s.engine.base s.engine.slots (2 * a.toNat)) = true ∧
    (s.engine.mode.headPhase = true → s.port.forward = none))

/-- R26, R49: the state in which a journaled write may wait for its grant: ACTIVE, or SAVING after the kind
write. -/
def grantsJournaled (m : Mode) : Bool := m == .active || saveStored m

/-- R47: the write held for a save lies in the save's granule. -/
def saveServes (s : State) : Bool :=
  match s.host.access, s.engine.mode with
  | some a, .saving w => decide (a.stage = .held .save → granuleOf a.addr = w.granule)
  | _, _ => true

/-- R138: outside OFF and BROKEN, a journaled write that waits for its grant has its granule's level equal
to depth. -/
abbrev SavedLaw (s : State) : Prop :=
  saveServes s = true ∧
  (s.power = .running → s.engine.mode ≠ .off → s.engine.mode ≠ .broken →
    (waitingWrite s).all (fun a => !journaled s a ||
      (grantsJournaled s.engine.mode &&
        TouchMap.level s.touch (granuleOf a).toNat == s.engine.stack.length)) = true)

end Sys2Proof.Safety
end

