-- ==== Sys2Proof/WellFormed.lean ====
section
/-! DEFINITION. The well-formed commands. Operands are of the widths the spec gives, so one check remains:
an UNKNOWN_COMMAND carries a code that names no command (R175). -/

namespace Sys2Proof

/-- A term that stands for a step of the part. -/
def Instr.wellFormed (i : Instr) : Bool :=
  match i with
  | .unknownCommand code _ => decide (code ∉ knownCodes)
  | .resetAssert => true
  | .resetRelease _ _ _ _ _ => true
  | .supplyLoss => true
  | .hostAccessArrive _ _ _ _ _ => true
  | .hostCycleEnd => true
  | .forwardComplete => true
  | .holdTimerExpire => true
  | .engineAccessComplete => true
  | .clearSweepComplete => true
  | .relabelSweepComplete => true
  | .linkReadComplete => true
  | .linkReadStatusDue => true
  | .markReqEdge => true
  | .undoReqEdge => true
  | .linkShortFrame => true
  | .linkFrameCut => true
  | .status _ => true
  | .fetchCause _ => true
  | .clearCauses _ _ => true
  | .setCauseLevel _ _ _ => true
  | .setThreshold _ _ => true
  | .readRecord _ => true
  | .writeRegion _ _ _ _ _ => true
  | .readRegion _ _ => true
  | .setArea _ _ _ => true
  | .setOptions _ _ _ _ _ _ => true
  | .arm _ => true
  | .disarm _ => true
  | .mark _ _ => true
  | .release _ => true
  | .undo _ _ => true
  | .commit _ => true
  | .resume _ _ => true
  | .readSlot _ _ => true
  | .readHead _ _ => true
  | .requestLineFall _ => true
  | .nssRiseAfterRelease => true

end Sys2Proof
end

