-- ==== Sys2Proof/Certificates/Slice0/Obligations.lean ====
section
/-! DEFINITION. The statements about the model, each a Prop named `Obligations.<Name>`. -/

open Sys2Proof Sys2Proof.Machine Sys2Proof.Safety

/-! ## The block and its queue -/

/-- The model's step: the command at the front of the queue runs on the state with the queue's rest; on an
empty queue the block idles (log 6). -/
def Obligations.StepRunsFrontCommand : Prop :=
  (∀ (c : Instr) (rest : List Instr) (s : State),
    step { s with pending := c :: rest } = exec c { s with pending := rest }) ∧
  (∀ s : State, s.pending = [] → step s = .next s)

/-- Every command but an ill-formed UNKNOWN_COMMAND (log 21) completes in every state, and none touches the
queue. -/
def Sys2Proof.Claims.WellFormedCommandsComplete : Prop :=
  ∀ (c : Instr) (s : State),
    if c.wellFormed then ∃ t, exec c s = .next t ∧ t.pending = s.pending
    else exec c s = .refused .illFormed

/-- The model's choice (log 5, log 24): a command that names an event which cannot occur in the present state
leaves the state as it is, and an arrival that is not taken marks the cycle alone. -/
def Sys2Proof.Claims.AbsentEventsChangeNothing : Prop :=
  ∀ s : State,
    (s.power = .reset → exec .resetAssert s = .next s) ∧
    (s.power = .running → ∀ j a m u n, exec (.resetRelease j a m u n) s = .next s) ∧
    (s.power = .unpowered → exec .supplyLoss s = .next s) ∧
    (∀ addr st l u d, (s.host.cycle = true → exec (.hostAccessArrive addr st l u d) s = .next s) ∧
      (s.host.cycle = false → s.power ≠ .running ∨ s.host.access ≠ none →
        exec (.hostAccessArrive addr st l u d) s
          = .next { s with host := { s.host with cycle := true } })) ∧
    (s.host.cycle = false → exec .hostCycleEnd s = .next s) ∧
    (s.power ≠ .running ∨ s.host.access = none ∨ s.port.busy.map PortBusy.who ≠ some .forward →
      exec .forwardComplete s = .next s) ∧
    (s.power ≠ .running ∨ s.host.access = none → exec .holdTimerExpire s = .next s) ∧
    (s.power ≠ .running ∨ s.port.busy.map PortBusy.who ≠ some .engine →
      exec .engineAccessComplete s = .next s) ∧
    (s.power ≠ .running ∨ s.port.busy.map PortBusy.who ≠ some .link →
      exec .linkReadComplete s = .next s) ∧
    (s.power ≠ .running ∨ ((∀ e, s.engine.mode ≠ .arming (.build e .sweep)) ∧
        (∀ e, s.engine.mode ≠ .committing e .sweep) ∧ s.engine.mode ≠ .disarming .sweep ∧
        s.engine.mode ≠ .breaking .sweep) → exec .clearSweepComplete s = .next s) ∧
    (s.power ≠ .running ∨ s.engine.mode ≠ .releasing .sweep →
      exec .relabelSweepComplete s = .next s) ∧
    (s.power ≠ .running ∨ s.link.reader = none ∨ (∀ f ∈ s.link.frame, f.response ≠ none) →
      exec .linkReadStatusDue s = .next s) ∧
    (s.power ≠ .running → exec .markReqEdge s = .next s ∧ exec .undoReqEdge s = .next s ∧
      (∀ line, exec (.requestLineFall line) s = .next s) ∧ exec .nssRiseAfterRelease s = .next s)

/-- Every well-formed command completes in every state (log 21); one that names an event which cannot occur changes
nothing (log 5, log 24). -/
def Obligations.CommandsComplete : Prop :=
  Claims.WellFormedCommandsComplete ∧ Claims.AbsentEventsChangeNothing

/-! ## Frames and checks -/

/-- R170, R189: the bytes of every frame decode to its command, and a command decoded from bytes is sent as
those bytes. -/
def Obligations.FrameBytesRoundTrip : Prop :=
  (∀ i : Instr, i.wellFormed = true → frameBytes i ≠ [] → decodeFrame (frameBytes i) = some i) ∧
  (∀ (bytes : List Byte) (i : Instr), decodeFrame bytes = some i →
    i.wellFormed = true ∧ frameBytes i = bytes)

/-- R170: the frame length of each known code and of any code that names no command, and that the answer to any
command of the link, whatever its
status, fills exactly its place in the frame; READ SLOT and READ HEAD decide theirs later. -/
def Obligations.FrameLengthsAreFixed : Prop :=
  knownCodes = [0x01#8, 0x02#8, 0x03#8, 0x04#8, 0x05#8, 0x06#8, 0x10#8, 0x11#8, 0x12#8, 0x13#8, 0x20#8,
    0x21#8, 0x22#8, 0x23#8, 0x24#8, 0x25#8, 0x26#8, 0x30#8, 0x31#8] ∧
  knownCodes.map frameLength = [39, 8, 8, 6, 5, 14, 10, 10, 8, 15, 4, 4, 6, 4, 5, 4, 5, 59, 81] ∧
  (∀ code : Byte, code ∉ knownCodes → frameLength code = 4) ∧
  ∀ (i : Instr) (s t : State), i.wellFormed = true → frameBytes i ≠ [] →
    s.power = .running → s.link.ignoring = false → exec i s = .next t →
    (commandBytes i).length = 1 + parameterBytes (codeOf (commandBytes i)) ∧
    ∃ f ∈ t.link.frame, f.code = codeOf (commandBytes i) ∧
      match f.response with
      | none => (f.code = 0x30#8 ∨ f.code = 0x31#8) ∧ t.link.reader.isSome = true
      | some r => f.sdoBytes.length = frameLength f.code ∧ r.length = 1 + responseBytes f.code + 1

/-- R171, R174: the CRC-8 of a frame, over the code and the parameters and over the status and the data; a
known command is answered CHECK exactly when its CRC byte differs. -/
def Sys2Proof.Claims.Crc8Parameters : Prop :=
  crc8 [] = 0x00#8 ∧
  (∀ (bytes : List Byte) (b : Byte),
    crc8 (bytes ++ [b]) = Nat.repeat crc8Shift 8 (crc8 bytes ^^^ b)) ∧
  (∀ r : Byte, crc8Shift r = if r.getLsbD 7 then (r <<< 1) ^^^ 0x07#8 else r <<< 1) ∧
  crc8 [0x31#8, 0x32#8, 0x33#8, 0x34#8, 0x35#8, 0x36#8, 0x37#8, 0x38#8, 0x39#8] = 0xF4#8 ∧
  (∀ (i : Instr) (s t : State) (f : Frame) (r : List Byte), i.wellFormed = true → frameBytes i ≠ [] →
    s.power = .running → s.link.ignoring = false →
    exec i s = .next t → t.link.frame = some f → f.response = some r →
    r.getLast? = some (crc8 r.dropLast)) ∧
  (∀ (i : Instr) (s t : State) (c : Byte), codeOf (commandBytes i) ∈ knownCodes →
    s.power = .running → s.link.ignoring = false → crcByte i = some c → exec i s = .next t →
    (c ≠ crc8 (commandBytes i) ↔ ∃ f ∈ t.link.frame, ∃ r ∈ f.response, r.head? = some 0xA7#8))

/-- R14: the CRC-16 of the journal and what each check covers. -/
def Sys2Proof.Claims.Crc16Parameters : Prop :=
  crc16 [] = 0xFFFF#16 ∧
  (∀ (bytes : List Byte) (b : Byte),
    crc16 (bytes ++ [b]) = Nat.repeat crc16Shift 8 (crc16 bytes ^^^ (b ++ 0x00#8 : BitVec 16))) ∧
  (∀ r : Half, crc16Shift r = if r.getLsbD 15 then (r <<< 1) ^^^ 0x1021#16 else r <<< 1) ∧
  crc16 [0x31#8, 0x32#8, 0x33#8, 0x34#8, 0x35#8, 0x36#8, 0x37#8, 0x38#8, 0x39#8] = 0x29B1#16 ∧
  (∀ e k u l : Half, markerCheck e k u l
    = crc16 [highByte e, lowByte e, highByte k, lowByte k, highByte u, lowByte u, highByte l,
        lowByte l]) ∧
  (∀ (e k u l : Half) (data : List Half), saveCheck e k u l data
    = crc16 ([highByte e, lowByte e, highByte k, lowByte k, highByte u, lowByte u, highByte l,
        lowByte l] ++ data.flatMap fun h => [lowByte h, highByte h])) ∧
  (∀ ws : List Half, headCheck ws
    = crc16 ((ws.take 31).flatMap fun h => [highByte h, lowByte h]))

/-- R14, R171: the two CRCs of the part and what each covers. -/
def Obligations.CrcParameters : Prop :=
  Claims.Crc8Parameters ∧ Claims.Crc16Parameters

/-- R5, R6: the validity of a head record, and the newer valid copy of two. -/
def Sys2Proof.Claims.NewerValidCopy : Prop :=
  (∀ ws : List Half, headValid ws = true ↔ word ws 0 = 0x4A55#16 ∧ word ws 31 = headCheck ws) ∧
  (∀ a b : List Half,
    (newerCopy a b = none ↔ headValid a = false ∧ headValid b = false) ∧
    (newerCopy a b = some .a ↔ headValid a = true ∧ (headValid b = true →
      ((word a 1).toNat + 65536 - (word b 1).toNat) % 65536 ≤ 32768)) ∧
    (newerCopy a b = some .b ↔ headValid b = true ∧ (headValid a = true →
      1 ≤ ((word b 1).toNat + 65536 - (word a 1).toNat) % 65536 ∧
      ((word b 1).toNat + 65536 - (word a 1).toNat) % 65536 ≤ 32767)))

/-- R103: the epoch that a new journal takes from an old one, and when it wipes. -/
def Sys2Proof.Claims.NewEpochAndWipe : Prop :=
  (∀ old : Half, (nextEpoch old).toNat
    = if old.toNat = 0 ∨ old.toNat = 65535 then 1 else old.toNat + 1) ∧
  (∀ (epoch : Half) (s : State), s.engine.slots ≠ 0 →
    (buildAfterSweep epoch s = .wipe 0 ↔ epoch = 1#16))

/-- R5, R6, R103: the newer valid copy of two head records, and the epoch and wipe that follow. -/
def Obligations.NewerCopyAndNewEpoch : Prop :=
  Claims.NewerValidCopy ∧ Claims.NewEpochAndWipe

/-! ## Invariants -/

/-- The state after reset meets every invariant stated here. -/
def Obligations.ResetMeetsInvariants : Prop :=
  MemoryForm State.reset ∧ AlertLaw State.reset ∧ LevelLaw State.reset ∧ BlockLaws State.reset ∧
  StackLaws State.reset ∧ PendingLaw State.reset ∧ TouchLaw State.reset ∧ EpochLaw State.reset ∧
  OverlapLaw State.reset ∧ PortLaw State.reset ∧ ShieldLaw State.reset ∧ SavedLaw State.reset

/-- Every step keeps the memory in its canonical form. -/
def Sys2Proof.Claims.StepKeepsMemoryForm : Prop :=
  ∀ s t : State, MemoryForm s → step s = .next t → MemoryForm t

/-- R21: every step keeps the touch map a map of levels 0 to 4 over the 32768 granules. -/
def Sys2Proof.Claims.StepKeepsTouchMap : Prop :=
  ∀ s t : State, StackLaws s → TouchLaw s → step s = .next t → TouchLaw t

/-- Every step keeps the memory in its canonical form and the touch map a map of levels 0 to 4 over the 32768
granules (R21). -/
def Obligations.StepKeepsMemoryAndTouchMap : Prop :=
  Claims.StepKeepsMemoryForm ∧ Claims.StepKeepsTouchMap

/-- R159: every step keeps ALERT asserted exactly when some latched cause has a level above the
threshold. -/
def Sys2Proof.Claims.StepKeepsAlert : Prop :=
  ∀ s t : State, AlertLaw s → step s = .next t → AlertLaw t

/-- R157: every step keeps the two level causes latched while their conditions hold. -/
def Sys2Proof.Claims.StepKeepsLevelCauses : Prop :=
  ∀ s t : State, LevelLaw s → step s = .next t → LevelLaw t

/-- R155, R157, R159: every step keeps ALERT with the causes above the threshold, and the two level causes
latched while their conditions hold. -/
def Obligations.StepKeepsAlertAndLevelCauses : Prop :=
  Claims.StepKeepsAlert ∧ Claims.StepKeepsLevelCauses

/-- R1, R145, R150, R166: every step keeps the ranges of the area and of the region table, the region
block's copy of the area, and the queue's eight records. -/
def Obligations.StepKeepsBlockLaws : Prop :=
  ∀ s t : State, BlockLaws s → step s = .next t → BlockLaws t

/-- R38, R56, R57: every step keeps fill, depth and the checkpoint stack together. -/
def Obligations.StepKeepsStack : Prop :=
  ∀ s t : State, StackLaws s → step s = .next t → StackLaws t

/-- R36, R71: after every step, a line request is pending only while an operation is in progress. -/
def Sys2Proof.Claims.StepKeepsPending : Prop :=
  ∀ s t : State, PendingLaw s → step s = .next t → PendingLaw t

/-- R103, R111: every step keeps the current epoch other than 0 outside OFF, ARMING and the head phase. -/
def Sys2Proof.Claims.StepKeepsEpoch : Prop :=
  ∀ s t : State, EpochLaw s → step s = .next t → EpochLaw t

/-- R146: every step keeps the armed part free of an enabled JOURNAL entry over the area. -/
def Sys2Proof.Claims.StepKeepsAreaUncovered : Prop :=
  ∀ s t : State, BlockLaws s → OverlapLaw s → step s = .next t → OverlapLaw t

/-- R36, R71, R103, R146: every step keeps the resting states free of pending line requests, the epoch in force
other than 0, and the armed area free of enabled JOURNAL entries. -/
def Obligations.StepKeepsPendingEpochAndCover : Prop :=
  Claims.StepKeepsPending ∧ Claims.StepKeepsEpoch ∧ Claims.StepKeepsAreaUncovered

/-- R139, R140: every step keeps each requester's one waiting request the one that its owner makes next, and
leaves no request waiting at an idle port. -/
def Obligations.StepKeepsPort : Prop :=
  ∀ s t : State, PortLaw s → step s = .next t → PortLaw t

/-- R151: every step keeps the writes that wait for the memory port outside the area in every state other
than OFF. -/
def Sys2Proof.Claims.StepKeepsShield : Prop :=
  ∀ s t : State, PortLaw s → BlockLaws s → ShieldLaw s → step s = .next t → ShieldLaw t

/-- R138: every step keeps the journaled writes that wait for the memory port saved at the present depth, where
the stack and the touch map keep their form. -/
def Sys2Proof.Claims.StepKeepsSaved : Prop :=
  ∀ s t : State, PortLaw s → BlockLaws s → StackLaws s → ShieldLaw s → SavedLaw s → step s = .next t →
    SavedLaw t

/-- R138, R151: every step keeps the host writes that wait for the memory port outside the area, and the
journaled ones among them saved at the present depth. -/
def Obligations.StepKeepsWaitingWritesSafe : Prop :=
  Claims.StepKeepsShield ∧ Claims.StepKeepsSaved

/-! ## What reaches the memory -/

/-- R3, R136, R139: a byte of memory changes in a command only where the port is then making a write, or,
when nRST is asserted or the supply lost, where it was making one. -/
def Obligations.MemoryChangesOnlyByPortWrites : Prop :=
  ∀ (c : Instr) (s t : State) (a : Nat), exec c s = .next t →
    Memory.read t.memory a ≠ Memory.read s.memory a → MemoryForm s →
    writeUnderWay t a = true ∨ (writeUnderWay s a = true ∧ (c = .resetAssert ∨ c = .supplyLoss))

/-- R151: in every state other than OFF, no host write reaches any byte of the journal area. -/
def Obligations.HostWritesStayOutOfArea : Prop :=
  ∀ (s t : State) (a : Nat), PortLaw s → BlockLaws s → ShieldLaw s → MemoryForm s →
    step s = .next t → hostWriteUnderWay t = true →
    Memory.read t.memory a ≠ Memory.read s.memory a → t.engine.mode ≠ .off →
    inArea t.engine.base t.engine.slots a = false

/-- R138: in every state other than OFF and BROKEN, a journaled write reaches the memory only when its
granule's touch-map level equals depth. -/
def Obligations.JournaledWritesReachMemorySaved : Prop :=
  ∀ (s t : State) (a : Nat), PortLaw s → BlockLaws s → StackLaws s → ShieldLaw s → SavedLaw s →
    MemoryForm s → step s = .next t → hostWriteUnderWay t = true →
    Memory.read t.memory a ≠ Memory.read s.memory a →
    t.engine.mode ≠ .off → t.engine.mode ≠ .broken →
    journaled t (BitVec.ofNat 19 (a / 2)) = true →
    TouchMap.level t.touch (a / 32) = t.engine.stack.length

/-- R136, R139, R140, R157: what closes an event. That the level causes, the engine's request and the grant follow
one another in this order inside the event is the model's choice (log 12); that a write reaches the memory, and a
read is sampled, at the grant is read from R149 (log 11). The level causes are renewed and the engine's request is
its next access, unless that one is in progress. An idle port then grants the first waiting requester in the
rotation after the one served last: a write reaches the memory on its lanes, a read finds the halfword
there, and a forward stops its hold timer. -/
def Obligations.PortGrantsInRotation : Prop :=
  (∀ s : State, settle s = grant { s with
    causes := { s.causes with latches := s.causes.latches ||| heldLatches s }.follow
    port := { s.port with
      engine := (if s.port.busy.map PortBusy.who = some .engine then none else s.engine.wanted) } }) ∧
  (∀ s : State, s.port.busy ≠ none → grant s = s) ∧
  (∀ s : State, s.port.busy = none → s.port.forward = none → s.port.engine = none →
    s.port.link = none → grant s = s) ∧
  (∀ (s : State) (r : Requester) (x : MemAccess), s.port.busy = none →
    let asks : Requester → Option MemAccess := fun r => match r with
      | .forward => s.port.forward
      | .engine => s.port.engine
      | .link => s.port.link
    let order : List Requester := match s.port.last with
      | .forward => [.engine, .link, .forward]
      | .engine => [.link, .forward, .engine]
      | .link => [.forward, .engine, .link]
    order.find? (fun r => (asks r).isSome) = some r → asks r = some x →
    let t := grant s
    t = { s with
      memory := t.memory
      port := { s.port with
        busy := some { who := r, access := x, seen := readHalf s.memory x.addr, discard := false }
        forward := if r = .forward then none else s.port.forward
        engine := if r = .engine then none else s.port.engine
        link := if r = .link then none else s.port.link }
      host := if r = .forward then
          { s.host with access := s.host.access.map (fun a =>
              { a with stage := .granted, timer := none }) }
        else s.host } ∧
    (MemoryForm s → ∀ a : Nat, Memory.read t.memory a
      = match x.data with
        | none => Memory.read s.memory a
        | some v =>
          if storesTo x a then (if a % 2 = 0 then lowByte v else highByte v)
          else Memory.read s.memory a))

/-- R156, R159: a cause's event sets its latch and no other, whatever its level, and ALERT follows. -/
def Sys2Proof.Claims.CauseEventLatches : Prop :=
  ∀ (c : Cause) (s t : State), t = raise c s →
    t = { s with causes := t.causes } ∧ t.causes.levels = s.causes.levels ∧
    t.causes.threshold = s.causes.threshold ∧
    (∀ n : Fin 16, t.causes.latches.getLsbD n.val
      = (s.causes.latches.getLsbD n.val || n == causeNumber c)) ∧
    AlertLaw t

/-- R155: the sixteen causes have the numbers 0 to 15 in this order, and no two the same. -/
def Sys2Proof.Claims.CauseNumbers : Prop :=
  [Cause.undoFault, .halted, .broken, .journalFull, .holdExpired, .accessRefused, .requestRefused,
    .requestMerged, .resumeEnd, .undoEnd, .baseEnd, .checkpointEnd, .journalHigh, .watchHit,
    .recordOverrun, .linkError].map causeNumber = List.finRange 16 ∧
  ∀ c d : Cause, causeNumber c = causeNumber d → c = d

/-- R41, R87, R157: the latches that the conditions of HALTED and JOURNAL_HIGH hold set. -/
def Sys2Proof.Claims.LevelCauseConditions : Prop :=
  ∀ (s : State) (n : Fin 16), (heldLatches s).getLsbD n.val = true ↔
    (n.val = 1 ∧ s.engine.mode = .halted) ∨
    (n.val = 12 ∧ 1 ≤ s.engine.highMark ∧ s.engine.highMark ≤ 8192 ∧
      s.engine.highMark ≤ s.engine.fill)

/-- R155, R156, R157, R159: the numbers of the causes, what the event of a cause latches, and what the conditions
of the level causes hold latched. -/
def Obligations.CausesLatch : Prop :=
  Claims.CauseNumbers ∧ Claims.CauseEventLatches ∧ Claims.LevelCauseConditions

/-! ## Reset and supply -/

/-- RESET_ASSERT (R37, R137, R142, R163, R168, R186) while the part runs: the access in progress is answered
with a bus error, the memory port is emptied, the map is all 0, latches, levels, threshold, record queue,
pending flags, frame and reader are cleared, and no byte changes but in a write cut short, which leaves the
old byte or the new one (R3, log 2). -/
def Sys2Proof.Claims.ResetAssertCompletes : Prop :=
  ∀ s : State, s.power ≠ .reset → ∃ t, exec .resetAssert s = .next t ∧
    t.power = .reset ∧ t.touch = [] ∧
    t.engine = { s.engine with markPending := false, undoPending := false } ∧
    t.host.access = none ∧ t.host.rdy = true ∧ t.host.nBerr = false ∧
    t.host.cycle = s.host.cycle ∧ t.host.holdLimit = s.host.holdLimit ∧
    t.port = { busy := none, last := .link, forward := none, engine := none, link := none } ∧
    t.causes.latches = 0#16 ∧ (∀ n : Fin 16, t.causes.levels.get n = 0) ∧
    t.causes.threshold = 0 ∧ t.causes.alert = false ∧
    t.records = { queue := [], overrun := false, nextSequence := 0#8 } ∧
    t.link.frame = none ∧ t.link.reader = none ∧ t.link.ignoring = s.link.ignoring ∧
    t.link.selected = s.link.selected ∧
    t.regions = s.regions ∧ t.pending = s.pending ∧
    (MemoryForm s → ∀ a : Nat, if writeUnderWay s a then
        Memory.read t.memory a = Memory.read s.memory a ∨
          ∃ b ∈ s.port.busy, Memory.read t.memory a
            = if a % 2 = 0 then lowByte b.seen else highByte b.seen
      else Memory.read t.memory a = Memory.read s.memory a)

/-- SUPPLY_LOSS (R3, log 9): the part stops, the memory port is emptied, and the memory keeps every byte but
those of a write cut short, which hold their old or their new value (log 2). -/
def Sys2Proof.Claims.SupplyLossCompletes : Prop :=
  ∀ s : State, s.power ≠ .unpowered → ∃ t, exec .supplyLoss s = .next t ∧
    t = { s with power := .unpowered, port := Port.idle, memory := t.memory
                 freeCount := t.freeCount } ∧
    (MemoryForm s → ∀ a : Nat, if writeUnderWay s a then
        Memory.read t.memory a = Memory.read s.memory a ∨
          ∃ b ∈ s.port.busy, Memory.read t.memory a
            = if a % 2 = 0 then lowByte b.seen else highByte b.seen
      else Memory.read t.memory a = Memory.read s.memory a)

/-- R3, R37: the assertion of nRST and the loss of the supply. -/
def Obligations.ResetAssertAndSupplyLoss : Prop :=
  Claims.ResetAssertCompletes ∧ Claims.SupplyLossCompletes

/-- RESET_RELEASE (R42, R107, R137, R142, R153, R163, R168, R180) out of reset: every block takes its reset
values; with JSEL[3:0] zero the engine is in OFF, otherwise it enters SCANNING at JSEL x 64 KiB with the base
alone and the first head read is granted. Memory, the host's cycle and the queue stand. D[15:0] is not driven
after the release, with a cycle asserted across it too: the model reads that from R137 and R125 (log 18). -/
def Obligations.ResetReleaseCompletes : Prop :=
  ∀ (s : State) (jsel : BitVec 4) (autoUndo mark undo nss : Bool), s.power ≠ .running →
    let t0 : State := { State.reset with
      engine := { State.reset.engine with markLine := mark, undoLine := undo }
      host := { State.reset.host with cycle := s.host.cycle }
      link := { State.reset.link with selected := nss, ignoring := nss }
      memory := s.memory
      freeCount := s.freeCount
      pending := s.pending }
    exec (.resetRelease jsel autoUndo mark undo nss) s = .next
      (if jsel.toNat = 0 then t0
       else { t0 with
         engine := { t0.engine with
           mode := .scanning autoUndo 1 (.heads [])
           stack := [{ position := 0, label := 0#16, number := 1 }]
           base := 64 * jsel.toNat }
         regions := { t0.regions with areaBase := 64 * jsel.toNat }
         port := { t0.port with
           busy := some { who := .engine
                          access := readAt (BitVec.ofNat 19 (32768 * jsel.toNat))
                          seen := readHalf s.memory (BitVec.ofNat 19 (32768 * jsel.toNat))
                          discard := false } } })

/-! ## Host accesses -/

/-- HOST_ACCESS_ARRIVE (R124, R126): an access with neither lane is answered completed at once, FFFFh for a
read; one with both strobes and a lane is answered at once with a bus error. Neither is classified, and
nothing else changes. With both strobes and no lane either answer may stand (log 4); what D[15:0] then
carries is open (log 3). -/
def Sys2Proof.Claims.UnclassifiedArrivals : Prop :=
  ∀ (s : State) (addr : HalfAddr) (data : Half), Ready s →
    exec (.hostAccessArrive addr .read false false data) s = .next
      { s with host := { s.host with cycle := true, rdy := true, nBerr := true
                                     dout := some 0xFFFF#16 } } ∧
    exec (.hostAccessArrive addr .write false false data) s = .next
      { s with host := { s.host with cycle := true, rdy := true, nBerr := true, dout := none } } ∧
    (∀ lower upper : Bool, ∃ (err : Bool) (d : Option Half) (n : Nat),
      exec (.hostAccessArrive addr .both lower upper data) s = .next
        { s with host := { s.host with cycle := true, rdy := true, nBerr := !err, dout := d }
                 freeCount := n } ∧
      ((lower || upper) = true → err = true))

/-- HOST_CYCLE_END (R124, R125, R137): before the answer the access goes on without its cycle; after it the
port stops driving D[15:0] and returns nBERR high, but not while nRST is low; without supply the pins stand
(log 9). Nothing else changes. -/
def Sys2Proof.Claims.HostCycleEndCompletes : Prop :=
  ∀ s : State, s.host.cycle = true →
    (∀ a : HostAccess, s.power = .running → s.host.access = some a →
      exec .hostCycleEnd s = .next { s with host := { s.host with
        cycle := false, access := some { a with abandoned := true } } }) ∧
    (s.power = .running → s.host.access = none →
      exec .hostCycleEnd s = .next { s with host := { s.host with
        cycle := false, nBerr := true, dout := none } }) ∧
    (s.power = .reset →
      exec .hostCycleEnd s = .next { s with host := { s.host with cycle := false, dout := none } }) ∧
    (s.power = .unpowered →
      exec .hostCycleEnd s = .next { s with host := { s.host with cycle := false } })

/-- R124, R125, R126, R137: the arrivals that are answered without classification, and the end of the host's
cycle. -/
def Obligations.UnclassifiedArrivalsAndCycleEnd : Prop :=
  Claims.UnclassifiedArrivals ∧ Claims.HostCycleEndCompletes

/-- R127, R144: the classification of an access takes the first of its steps that applies; a region entry
decides when it is the lowest-indexed enabled one whose span holds the address. -/
def Sys2Proof.Claims.ClassificationOrder : Prop :=
  ∀ (s : State) (a : HalfAddr) (d : Direction),
    let byte := 2 * a.toNat
    let holds : Fin 8 → Prop := fun i =>
      let r := s.regions.entries.get i
      r.mode ≠ .disabled ∧ r.base * 1024 ≤ byte ∧ byte < (r.base + r.length) * 1024
    let area : Prop := s.regions.areaSlots ≠ 0 ∧ s.regions.areaBase * 1024 ≤ byte ∧
      byte < s.regions.areaBase * 1024 + 128 + 44 * s.regions.areaSlots
    (s.engine.mode.headPhase = true → classify s a d = .hold) ∧
    (s.engine.mode.headPhase = false → s.engine.mode ≠ .off → area →
      classify s a d = match d with | .read => .forward none | .write => .refuse (some 8)) ∧
    (s.engine.mode.headPhase = false → (s.engine.mode = .off ∨ ¬ area) →
      (∀ i, holds i → (∀ j < i, ¬ holds j) →
        classify s a d = regionTreatment s.engine.mode.name i (s.regions.entries.get i).mode d) ∧
      ((∀ i, ¬ holds i) → classify s a d = .forward none))

/-- R128: the treatment by a GUARD, WATCH or GUARD+WATCH entry is the same in every engine state. -/
def Sys2Proof.Claims.GuardAndWatchTreatment : Prop :=
  ∀ (n : StateName) (i : Fin 8),
    regionTreatment n i .guard .read = .forward none ∧
    regionTreatment n i .guard .write = .refuse (some i.castSucc) ∧
    regionTreatment n i .watch .read = .forward (some i) ∧
    regionTreatment n i .watch .write = .forward (some i) ∧
    regionTreatment n i .guardWatch .read = .forward (some i) ∧
    regionTreatment n i .guardWatch .write = .refuse (some i.castSucc)

/-- R129: the treatment of a journaled access by engine state. -/
def Sys2Proof.Claims.JournaledTreatment : Prop :=
  ∀ (n : StateName) (i : Fin 8),
    regionTreatment n i .journal .read =
      (if n = .halted then .refuse none
       else if n = .undoing ∨ n = .scanning then .hold
       else .forward none) ∧
    regionTreatment n i .journal .write =
      (if n = .off ∨ n = .broken then .forward none
       else if n = .active then .lookup
       else if n = .saving ∨ n = .halted then .refuse none
       else .hold)

/-- R127 to R129, R144: the classification of an access and the treatment of each mode. That a read of the area in
OFF follows the entries too is the model's choice between R127 and R151 (log 29). -/
def Obligations.Classification : Prop :=
  Claims.ClassificationOrder ∧ Claims.GuardAndWatchTreatment ∧ Claims.JournaledTreatment

/-- HOST_ACCESS_ARRIVE of a read or write with a lane enabled (R124, R127, R131, R133, R136): the access is
in progress with RDY low; forwarded, its request waits at the memory port; held, its timer runs under the
hold limit in force; refused, it ends with a bus error, ACCESS_REFUSED and, where there is one, its
record. -/
def Obligations.ClassifiedArrivals : Prop :=
  ∀ (s : State) (addr : HalfAddr) (dir : Direction) (lower upper : Bool) (data : Half),
    Ready s → (lower || upper) = true →
    let access := sampled addr dir { lower := lower, upper := upper } data
    let arrive := exec (.hostAccessArrive addr (strobeOf dir) lower upper data) s
    match classify s addr dir with
    | .forward watch => arrive = .next (settle (forwardWaits (access .forwarding none watch) s))
    | .hold =>
      arrive = .next (settle (inProgress (access (.held .engine) (some s.host.holdLimit) none) s))
    | .refuse none =>
      arrive = .next (settle (refused (access .forwarding none none)
        (raise .accessRefused (inProgress (access .forwarding none none) s))))
    | .refuse (some i) =>
      arrive = .next (settle (refused (access .forwarding none none)
        (raise .accessRefused (recorded (access .forwarding none none) data i .refused
          (inProgress (access .forwarding none none) s)))))
    | .lookup => ∃ t, arrive = .next t

/-- R24, R25, R47, R52, R53, R133: the lookup of a journaled write, at its arrival or after a hold. With its granule's
level equal to depth it goes forward; otherwise it is held while a save begins at slot fill, with the level, or
depth − 1 for a level above depth, as prior level; with the journal full it is refused with JOURNAL_FULL under
REFUSE, and held while the break begins its BROKEN head write under BREAK. A timer that runs already goes on
(log 13); otherwise it starts under the hold limit in force. -/
def Sys2Proof.Claims.LookupOfAnyWrite : Prop :=
  ∀ (s : State) (a : HostAccess),
    let level := TouchMap.level s.touch (a.addr.toNat / 16)
    let depth := s.engine.stack.length
    let inStage := fun (stage : Stage) (timer : Option Byte) => ({ s.host with
      access := some { a with stage := stage, timer := timer, watch := none } } : HostPort)
    let limit := a.timer.getD s.host.holdLimit
    (level = depth → lookupWrite a s = { s with
      host := inStage .forwarding a.timer
      port := { s.port with forward := some (forwardAccess a) } }) ∧
    (level ≠ depth → s.engine.fill < s.engine.slots → lookupWrite a s = { s with
      host := inStage (.held .save) (some limit)
      engine := { s.engine with mode := .saving (SaveWork.mk (BitVec.ofNat 15 (a.addr.toNat / 16))
        (if level < depth then level else depth - 1) 0 []) } }) ∧
    (level ≠ depth → s.engine.slots ≤ s.engine.fill → s.engine.policy = .refuse →
      lookupWrite a s = refused a (raise .journalFull s)) ∧
    (level ≠ depth → s.engine.slots ≤ s.engine.fill → s.engine.policy = .breakJournal →
      lookupWrite a s = { s with
        host := inStage (.held .breakEnd) (some limit)
        engine := { s.engine with mode := .breaking (.writeHead (HeadWrite.mk
          (if s.engine.current = some .a then .b else .a)
          (headWords (s.engine.headSequence + 1) s.engine.epoch s.engine.slots 2#16
            s.regions.entries.toList) 0)) } })

/-- R24, R47, R52, R53: HOST_ACCESS_ARRIVE of a journaled write in ACTIVE. With its granule's level equal to
depth it goes forward; otherwise it is held while a save begins at slot fill, with the level, or depth − 1
for a level above depth, as prior level; with the journal full it is refused with JOURNAL_FULL under REFUSE,
and held while the break begins its BROKEN head write under BREAK. -/
def Sys2Proof.Claims.LookupAtArrival : Prop :=
  ∀ (s : State) (addr : HalfAddr) (lower upper : Bool) (data : Half),
    Ready s → (lower || upper) = true → classify s addr .write = .lookup →
    let access := sampled addr .write { lower := lower, upper := upper } data
    let arrive := exec (.hostAccessArrive addr .write lower upper data) s
    let level := TouchMap.level s.touch (addr.toNat / 16)
    let depth := s.engine.stack.length
    (level = depth → arrive = .next (settle (forwardWaits (access .forwarding none none) s))) ∧
    (level ≠ depth → s.engine.fill < s.engine.slots →
      arrive = .next (settle
        { inProgress (access (.held .save) (some s.host.holdLimit) none) s with
          engine := { s.engine with mode := .saving (SaveWork.mk (BitVec.ofNat 15 (addr.toNat / 16))
            (if level < depth then level else depth - 1) 0 []) } })) ∧
    (level ≠ depth → s.engine.slots ≤ s.engine.fill → s.engine.policy = .refuse →
      arrive = .next (settle (refused (access .forwarding none none)
        (raise .journalFull (inProgress (access .forwarding none none) s))))) ∧
    (level ≠ depth → s.engine.slots ≤ s.engine.fill → s.engine.policy = .breakJournal →
      arrive = .next (settle
        { inProgress (access (.held .breakEnd) (some s.host.holdLimit) none) s with
          engine := { s.engine with mode := .breaking (.writeHead (HeadWrite.mk
            (if s.engine.current = some .a then .b else .a)
            (headWords (s.engine.headSequence + 1) s.engine.epoch s.engine.slots 2#16
              s.regions.entries.toList) 0)) } }))

/-- R24, R25, R47, R52, R53: the lookup of a journaled write, of any access and at an arrival. -/
def Obligations.JournaledWriteLookup : Prop :=
  Claims.LookupOfAnyWrite ∧ Claims.LookupAtArrival

/-- FORWARD_COMPLETE (R125, R128, R136, R49): the access is answered completed, a read with the halfword
found at its grant on the enabled lanes and FFh on the others; a watched access hands its record and latches
WATCH_HIT; the answer to a cycle already ended is withdrawn; and when the access was the write of a stored
save the engine enters ACTIVE. -/
def Obligations.ForwardCompletes : Prop :=
  ∀ (s : State) (b : PortBusy) (a : HostAccess),
    s.power = .running → s.port.busy = some b → b.who = .forward → s.host.access = some a →
    let returned : Half := (if a.lanes.upper then highByte b.seen else 0xFF#8)
      ++ (if a.lanes.lower then lowByte b.seen else 0xFF#8)
    let freed := portFreed .forward s
    let noted : State := match a.watch with
      | none => freed
      | some i => raise .watchHit
          (recorded a (if a.dir = .read then returned else a.data) i.castSucc .passed freed)
    let answered : State := { noted with host := { s.host with
      access := none, rdy := true, nBerr := true
      dout := if a.abandoned then none else if a.dir = .read then some returned else none } }
    exec .forwardComplete s
      = .next (settle (if saveStored s.engine.mode then enterActive answered else answered))

/-- HOLD_TIMER_EXPIRE (R133, R134, R135): a running timer refuses its access with HOLD_EXPIRED and no
record, and withdraws its forward; the engine's operation runs on, and ends when it was a stored save that
waited for this write. A timer of limit 0 does not expire. -/
def Obligations.HoldTimerExpires : Prop :=
  ∀ (s : State) (a : HostAccess), s.power = .running → s.host.access = some a →
    (∀ limit : Byte, a.timer = some limit → limit ≠ 0#8 →
      let ended := refused a (raise .holdExpired
        { s with port := { s.port with forward := none } })
      exec .holdTimerExpire s
        = .next (settle (if saveStored s.engine.mode then enterActive ended else ended))) ∧
    (a.timer = none ∨ a.timer = some 0#8 → exec .holdTimerExpire s = .next s)

/-- R25, R84, R129, R132, R149: a held access when the engine has left the state that held it, and a forward
not yet granted when an operation begins, are classified afresh: forwarded with the WATCH record that is now
due, held with the timer that already runs, refused, or looked up. The trigger of a break goes forward in
BROKEN; a write held for its save, and a granted access, stay as they are. -/
def Obligations.AccessClassifiedAfresh : Prop :=
  ∀ (s : State) (a : HostAccess), s.host.access = some a →
    let withdrawn : State := { s with port := { s.port with forward := none } }
    let again : State → State := fun u => match classify s a.addr a.dir with
      | .forward watch =>
        { u with host := { s.host with access := some { a with stage := .forwarding, watch := watch } }
                 port := { u.port with forward := some (forwardAccess a) } }
      | .hold =>
        { u with host := { s.host with access := some { a with
            stage := .held .engine, watch := none
            timer := some (a.timer.getD s.host.holdLimit) } } }
      | .refuse none => refused a (raise .accessRefused u)
      | .refuse (some i) => refused a (raise .accessRefused (recorded a a.data i .refused u))
      | .lookup => lookupWrite a u
    (a.stage = .held .engine → resolveHeld s = again s ∧ reclassifyWaiting s = s) ∧
    (a.stage = .forwarding → reclassifyWaiting s = again withdrawn ∧ resolveHeld s = s) ∧
    (a.stage = .granted → reclassifyWaiting s = s ∧ resolveHeld s = s) ∧
    (a.stage = .held .save → reclassifyWaiting s = s ∧ resolveHeld s = s) ∧
    (a.stage = .held .breakEnd → s.engine.mode = .broken → resolveHeld s =
      { s with host := { s.host with access := some { a with stage := .forwarding, watch := none } }
               port := { s.port with forward := some (forwardAccess a) } })

/-! ## The ends of operations -/

/-- R25, R36, R59, R69, R81, R84, R132: an operation that ends in ACTIVE takes a pending UNDO first, which ends at
once with count 0 and UNDO_END when fill has come down to the top checkpoint; then a pending MARK, tested on
depth before space; and rests. At the end a held access is classified afresh in the state that the engine is
then in (`resolveHeld`), and a forward that waits as the pending operation begins is classified afresh in that
operation (`reclassifyWaiting`, R149), an undo that ends at its entry included (log 22). -/
def Sys2Proof.Claims.EntryToActive : Prop :=
  ∀ s : State,
    let resting : State := { s with engine := { s.engine with
      mode := .active, markPending := false, undoPending := false } }
    let depth := s.engine.stack.length
    let undoing : State := reclassifyWaiting { s with engine := { s.engine with
      mode := .undoing (UndoWork.mk s.engine.topPosition false depth false (.header []))
      undoPending := false, undoCount := 0, undoOutcome := .none } }
    (s.engine.markPending = false → s.engine.undoPending = false →
      enterActive s = resolveHeld resting) ∧
    (s.engine.undoPending = true → s.engine.topPosition < s.engine.fill →
      enterActive s = resolveHeld undoing) ∧
    (s.engine.undoPending = true → s.engine.fill ≤ s.engine.topPosition →
      enterActive s = enterActive (raise .undoEnd { undoing with
        engine := { undoing.engine with undoOutcome := .normal } })) ∧
    (s.engine.markPending = true → s.engine.undoPending = false → depth < 4 →
      s.engine.fill < s.engine.slots →
      enterActive s = resolveHeld (reclassifyWaiting { s with engine := { s.engine with
        mode := .marking 0xFFFF#16 0, markPending := false } })) ∧
    (s.engine.markPending = true → s.engine.undoPending = false → 4 ≤ depth →
      enterActive s = resolveHeld (raise .requestRefused resting)) ∧
    (s.engine.markPending = true → s.engine.undoPending = false → depth < 4 →
      s.engine.slots ≤ s.engine.fill →
      enterActive s = resolveHeld (raise .journalFull (raise .requestRefused resting)))

/-- R25, R36, R69, R84, R119, R132: what such an end does with a write that the operation has held and that a JOURNAL
entry decides: with no request pending it meets its lookup in ACTIVE; with a request pending that begins an undo
or a mark it stays held, its timer going on (log 13). -/
def Sys2Proof.Claims.HeldWriteAtEntryToActive : Prop :=
  ∀ (s : State) (a : HostAccess) (l : Byte),
    let active : State := { s with engine := { s.engine with mode := .active } }
    s.host.access = some a → a.stage = .held .engine → a.dir = .write → a.timer = some l →
    journaled active a.addr = true → s.regions.areaBase = s.engine.base →
    s.regions.areaSlots = s.engine.slots →
    (s.engine.markPending = false → s.engine.undoPending = false →
      enterActive s = lookupWrite a active) ∧
    (s.engine.undoPending = true ∧ s.engine.topPosition < s.engine.fill ∨
        s.engine.undoPending = false ∧ s.engine.markPending = true ∧ s.engine.stack.length < 4 ∧
          s.engine.fill < s.engine.slots →
      (enterActive s).host = { s.host with access := some { a with watch := none } })

/-- R36, R38, R70, R132: an operation that ends in OFF or BROKEN empties fill and the stack and clears each pending
flag with REQUEST_REFUSED; BROKEN is raised at each entry to BROKEN. A held access is classified afresh in the
state entered. -/
def Sys2Proof.Claims.EntryToOffAndBroken : Prop :=
  ∀ s : State,
    let emptied := fun m : Mode => ({ s with engine := { s.engine with
      mode := m, fill := 0, stack := [], markPending := false, undoPending := false } } : State)
    let pending := s.engine.markPending || s.engine.undoPending
    endInOff s = resolveHeld
      (if pending then raise .requestRefused (emptied .off) else emptied .off) ∧
    endInBroken s = resolveHeld
      (if pending then raise .requestRefused (raise .broken (emptied .broken))
       else raise .broken (emptied .broken))

/-- R25, R36, R38, R69, R70, R84, R132: how an operation ends in ACTIVE, in OFF and in BROKEN, and what becomes of the
access in progress. -/
def Obligations.EndsOfOperations : Prop :=
  Claims.EntryToActive ∧ Claims.HeldWriteAtEntryToActive ∧ Claims.EntryToOffAndBroken

/-! ## The engine's accesses -/

/-- R2, R15, R48, R60: the accesses of a save and a mark at byte addresses of the area, with a slot free: VOID
into the slot at fill, the granule's halfwords each read and then written into the data area, the five header
halfwords, and the kind last. -/
def Sys2Proof.Claims.SaveAndMarkAccesses : Prop :=
  ∀ e : Engine, e.base * 1024 + 128 + 44 * e.slots ≤ 1048576 → e.fill < e.slots →
    let at_ := fun n : Nat => BitVec.ofNat 19 ((e.base * 1024 + 128 + 44 * e.fill + n) / 2)
    let write := fun (n : Nat) (v : Half) =>
      some ({ addr := at_ n, data := some v, lanes := bothLanes } : MemAccess)
    let k := BitVec.ofNat 16 e.fill
    (∀ w : SaveWork,
      let g := BitVec.ofNat 16 w.granule.toNat
      let l := BitVec.ofNat 16 w.prior
      let accesses := fun n => Engine.wanted { e with mode := .saving { w with done := n } }
      accesses 0 = write 0 0x0000#16 ∧
      (∀ j < 16, accesses (2 * j + 1)
          = some { addr := BitVec.ofNat 19 ((w.granule.toNat * 32 + 2 * j) / 2), data := none
                   lanes := bothLanes } ∧
        accesses (2 * j + 2) = write (12 + 2 * j) (w.data.getD j 0#16)) ∧
      accesses 33 = write 2 e.epoch ∧ accesses 34 = write 4 k ∧ accesses 35 = write 6 g ∧
      accesses 36 = write 8 l ∧ accesses 37 = write 10 (saveCheck e.epoch k g l w.data) ∧
      accesses 38 = write 0 0x3C01#16 ∧ (∀ n, 39 ≤ n → accesses n = none)) ∧
    (∀ label : Half,
      let l := BitVec.ofNat 16 (e.stack.length + 1)
      let accesses := fun n => Engine.wanted { e with mode := .marking label n }
      accesses 0 = write 0 0x0000#16 ∧ accesses 1 = write 2 e.epoch ∧ accesses 2 = write 4 k ∧
      accesses 3 = write 6 label ∧ accesses 4 = write 8 l ∧
      accesses 5 = write 10 (markerCheck e.epoch k label l) ∧ accesses 6 = write 0 0x3C02#16)

/-- R2, R62, R63: the one access of a release, the kind of the top checkpoint's marker slot, at its byte address;
it is the same with the journal full. -/
def Sys2Proof.Claims.ReleaseAccess : Prop :=
  ∀ e : Engine, e.base * 1024 + 128 + 44 * e.slots ≤ 1048576 → e.fill ≤ e.slots →
    ∀ c ∈ e.stack.getLast?, 1 ≤ c.position →
      Engine.wanted { e with mode := .releasing .writeKind } = some
        { addr := BitVec.ofNat 19 ((e.base * 1024 + 128 + 44 * (c.position - 1)) / 2)
          data := some 0x3C04#16, lanes := bothLanes }

/-- R2, R15, R48, R60, R62, R63: the accesses of a save and a mark, with a slot free, and of a release, with the
journal full or not. -/
def Obligations.EntryWriteSequences : Prop :=
  Claims.SaveAndMarkAccesses ∧ Claims.ReleaseAccess

/-- R2, R4, R8, R187: the head record that an operation writes, halfword by halfword, and the byte addresses
of its 32 writes. -/
def Obligations.HeadWriteSequence : Prop :=
  (∀ (st epoch : Half) (s : State),
    let w := newHeadWrite st epoch s
    let entry := fun i : Fin 8 => s.regions.entries.get i
    w.copy = (if s.engine.current = some .a then .b else .a) ∧ w.done = 0 ∧ w.words.length = 32 ∧
    word w.words 0 = 0x4A55#16 ∧ word w.words 1 = s.engine.headSequence + 1 ∧
    word w.words 2 = epoch ∧ word w.words 3 = BitVec.ofNat 16 s.engine.slots ∧
    word w.words 4 = st ∧
    (∀ i : Fin 8,
      word w.words (5 + 2 * i.val)
        = BitVec.ofNat 16 (modeCode (entry i).mode * 4096 + (entry i).base) ∧
      word w.words (6 + 2 * i.val) = BitVec.ofNat 16 (entry i).length) ∧
    (∀ i, 21 ≤ i → i ≤ 30 → word w.words i = 0x0000#16) ∧
    word w.words 31 = headCheck w.words) ∧
  (∀ (e : Engine) (w : HeadWrite), e.base ≤ 1023 → w.done < 32 →
    let start := e.base * 1024 + (match w.copy with | .a => 0 | .b => 64)
    let access : MemAccess :=
      { addr := BitVec.ofNat 19 ((start + 2 * w.done) / 2), data := some (word w.words w.done)
        lanes := bothLanes }
    Engine.wanted { e with mode := .recording w } = some access ∧
    Engine.wanted { e with mode := .disarming (.writeHead w) } = some access ∧
    Engine.wanted { e with mode := .breaking (.writeHead w) } = some access ∧
    (∀ epoch, Engine.wanted { e with mode := .committing epoch (.writeHead w) } = some access ∧
      Engine.wanted { e with mode := .arming (.build epoch (.writeHead w)) } = some access))

/-- R44, R76, R77, R78, R104, R106, R110, R115: the byte addresses of the head reads, of the reads, restore
writes and VOID writes of an undo at slot fill − 1, of the reads of a scan at slot fill, and of the wipe. -/
def Obligations.ReadAndVoidSequences : Prop :=
  ∀ e : Engine, e.base * 1024 + 128 + 44 * e.slots ≤ 1048576 →
    let read := fun a : Nat =>
      some ({ addr := BitVec.ofNat 19 (a / 2), data := none, lanes := bothLanes } : MemAccess)
    let void := fun a : Nat =>
      some ({ addr := BitVec.ofNat 19 (a / 2), data := some 0x0000#16, lanes := bothLanes } : MemAccess)
    let head := fun n : Nat => e.base * 1024 + 2 * n
    let slot := fun k : Nat => e.base * 1024 + 128 + 44 * k
    (∀ got : List Half, got.length < 64 →
      Engine.wanted { e with mode := .arming (.readHeads got) } = read (head got.length) ∧
      ∀ a l, Engine.wanted { e with mode := .scanning a l (.heads got) } = read (head got.length)) ∧
    (∀ (u : UndoWork) (h : SlotHeader) (got : List Half) (j : Nat),
      1 ≤ e.fill → e.fill ≤ e.slots → h.subject.toNat ≤ 32767 → j < 16 →
      let wanted := fun st => Engine.wanted { e with mode := .undoing { u with step := st } }
      (got.length < 6 → wanted (.header got) = read (slot (e.fill - 1) + 2 * got.length)) ∧
      (got.length < 16 → wanted (.data h got) = read (slot (e.fill - 1) + 12 + 2 * got.length)) ∧
      wanted (.restore h got j) = some
        { addr := BitVec.ofNat 19 ((h.subject.toNat * 32 + 2 * j) / 2), data := some (got.getD j 0#16)
          lanes := bothLanes } ∧
      wanted (.void h) = void (slot (e.fill - 1))) ∧
    (∀ (a : Bool) (l : Nat) (h : SlotHeader) (got : List Half) (k : Nat) (r : StopReason),
      e.fill < e.slots → k < e.slots →
      let wanted := fun st => Engine.wanted { e with mode := .scanning a l st }
      (got.length < 6 → wanted (.header got) = read (slot e.fill + 2 * got.length)) ∧
      (got.length < 16 → wanted (.data h got) = read (slot e.fill + 12 + 2 * got.length)) ∧
      wanted (.voiding k r) = void (slot k)) ∧
    (∀ (epoch : Half) (k : Nat), k < e.slots →
      Engine.wanted { e with mode := .arming (.build epoch (.wipe k)) } = void (slot k) ∧
      Engine.wanted { e with mode := .committing epoch (.wipe k) } = void (slot k))

/-- ENGINE_ACCESS_COMPLETE in SAVING (R26, R48, R49): a granule read joins the data; at the kind write fill
rises by one and the granule's level becomes depth together; the write held for the save then waits for its
grant, and with none the engine enters ACTIVE. -/
def Obligations.SaveAdvances : Prop :=
  ∀ (s : State) (v : Half) (w : SaveWork), EngineAccess s v → s.engine.mode = .saving w →
    let freed := portFreed .engine s
    let data := if w.done % 2 = 1 ∧ w.done < 32 then w.data ++ [v] else w.data
    let stored : State := { freed with
      engine := { s.engine with mode := .saving { w with done := 39, data := data }
                                fill := s.engine.fill + 1 }
      touch := TouchMap.set s.touch w.granule.toNat s.engine.stack.length }
    (w.done < 38 → exec .engineAccessComplete s = .next (settle { freed with
      engine := { s.engine with mode := .saving { w with done := w.done + 1, data := data } } })) ∧
    (w.done = 38 → (∀ a ∈ s.host.access, a.stage ≠ .held .save) →
      exec .engineAccessComplete s = .next (settle (enterActive stored))) ∧
    (∀ a : HostAccess, w.done = 38 → s.host.access = some a → a.stage = .held .save →
      exec .engineAccessComplete s = .next (settle { stored with
        host := { s.host with access := some { a with stage := .forwarding, watch := none } }
        port := { freed.port with forward := some (forwardAccess a) } })) ∧
    (TouchLaw s → ∀ g : Nat, TouchMap.level stored.touch g
      = if g = w.granule.toNat then s.engine.stack.length else TouchMap.level s.touch g)

/-- ENGINE_ACCESS_COMPLETE in MARKING and RELEASING (R58, R60, R63): at the MARKER kind write fill rises and a
checkpoint is pushed at the new fill; at the RELEASED kind write the top checkpoint is removed; both raise
CHECKPOINT_END and end in ACTIVE. -/
def Obligations.MarkAndReleaseAdvance : Prop :=
  ∀ (s : State) (v : Half), EngineAccess s v →
    let freed := portFreed .engine s
    (∀ (label : Half) (n : Nat), s.engine.mode = .marking label n → n < 6 →
      exec .engineAccessComplete s = .next (settle { freed with
        engine := { s.engine with mode := .marking label (n + 1) } })) ∧
    (∀ label : Half, s.engine.mode = .marking label 6 →
      exec .engineAccessComplete s = .next (settle (enterActive (raise .checkpointEnd { freed with
        engine := { s.engine with
          fill := s.engine.fill + 1
          stack := s.engine.stack ++ [Checkpoint.mk (s.engine.fill + 1) label
            (s.engine.stack.length + 1)] } })))) ∧
    (s.engine.mode = .releasing .writeKind →
      exec .engineAccessComplete s = .next (settle (enterActive (raise .checkpointEnd { freed with
        engine := { s.engine with stack := s.engine.stack.dropLast } }))))

/-- ENGINE_ACCESS_COMPLETE in a head write (R7, R8, R45, R53, R55, R95, R100): the check write makes the copy
current; it ends ARM and COMMIT in ACTIVE with the new epoch, an empty journal over the base alone and
BASE_END, DISARM in OFF with BASE_END, and RECORDING in ACTIVE; BREAKING goes on to its clear sweep. -/
def Obligations.HeadWritesAdvance : Prop :=
  ∀ (s : State) (v : Half) (w : HeadWrite), EngineAccess s v → w.done < 32 →
    let freed := portFreed .engine s
    let inMode := fun m : Mode => ({ freed with engine := { s.engine with mode := m } } : State)
    let taken := headTaken w freed
    let based := fun epoch : Half => ({ taken with
      engine := { taken.engine with epoch := epoch, fill := 0, stack := [base] } } : State)
    let done := exec .engineAccessComplete s
    (∀ epoch, s.engine.mode = .arming (.build epoch (.writeHead w)) →
      done = .next (settle (if w.done < 31 then inMode (.arming (.build epoch (.writeHead (nextWrite w))))
        else enterActive (raise .baseEnd (based epoch))))) ∧
    (∀ epoch, s.engine.mode = .committing epoch (.writeHead w) →
      done = .next (settle (if w.done < 31 then inMode (.committing epoch (.writeHead (nextWrite w)))
        else enterActive (raise .baseEnd (based epoch))))) ∧
    (s.engine.mode = .disarming (.writeHead w) →
      done = .next (settle (if w.done < 31 then inMode (.disarming (.writeHead (nextWrite w)))
        else endInOff (raise .baseEnd taken)))) ∧
    (s.engine.mode = .recording w →
      done = .next (settle (if w.done < 31 then inMode (.recording (nextWrite w))
        else enterActive taken))) ∧
    (s.engine.mode = .breaking (.writeHead w) →
      done = .next (settle (if w.done < 31 then inMode (.breaking (.writeHead (nextWrite w)))
        else { taken with engine := { taken.engine with mode := .breaking .sweep } })))

/-- ENGINE_ACCESS_COMPLETE in ARMING's head reads and in the wipe (R44, R45, R95, R103, R104): after the 64th
read the newer valid copy gives the head sequence, the current copy and the epoch from which the new one
follows; the wipe voids slot after slot, and the head write of the new epoch comes after the last. -/
def Obligations.ArmReadsAndWipeAdvance : Prop :=
  ∀ (s : State) (v : Half), EngineAccess s v →
    let freed := portFreed .engine s
    let inMode := fun m : Mode => ({ freed with engine := { s.engine with mode := m } } : State)
    let done := exec .engineAccessComplete s
    (∀ got : List Half, s.engine.mode = .arming (.readHeads got) →
      (got.length < 63 → done = .next (settle (inMode (.arming (.readHeads (got ++ [v])))))) ∧
      (got.length = 63 →
        let a := got.take 32
        let b := got.drop 32 ++ [v]
        let newer : Option (List Half) := (newerCopy a b).map fun c => match c with
          | .a => a
          | .b => b
        let epoch := match newer with
          | none => 1#16
          | some ws => nextEpoch (word ws 2)
        done = .next (settle { freed with engine := { s.engine with
          mode := .arming (.build epoch .sweep)
          headSequence := (newer.map fun ws => word ws 1).getD 0#16
          current := newerCopy a b } }))) ∧
    (∀ (epoch : Half) (k : Nat),
      let next : BuildStep := if k + 1 < s.engine.slots then .wipe (k + 1)
        else .writeHead (newHeadWrite 1#16 epoch s)
      (s.engine.mode = .arming (.build epoch (.wipe k)) →
        done = .next (settle (inMode (.arming (.build epoch next))))) ∧
      (s.engine.mode = .committing epoch (.wipe k) →
        done = .next (settle (inMode (.committing epoch next)))))

/-- ENGINE_ACCESS_COMPLETE in UNDOING's reads and restore writes (R76, R77, R78, R79, R80, R82, R86, R89): six
header reads judge the slot at fill − 1, sixteen data reads a SAVE, the sixteen restore writes lead to the
VOID write. A slot that fails a test is bad: the outcome becomes FAULT, UNDO_FAULT is raised, and the engine
enters HALTED with its pending flags refused, or DISARMING after a DISARM; nothing is written. -/
def Obligations.UndoJudgesSlots : Prop :=
  ∀ (s : State) (v : Half) (u : UndoWork), EngineAccess s v → s.engine.mode = .undoing u →
    let freed := portFreed .engine s
    let goes := fun st : UndoStep => Host.Outcome.next (ρ := Refusal) (φ := Fault)
      (settle { freed with engine := { s.engine with mode := .undoing { u with step := st } } })
    let faulted := raise .undoFault
      { freed with engine := { s.engine with undoOutcome := .fault } }
    let bad := Host.Outcome.next (ρ := Refusal) (φ := Fault) (settle (resolveHeld
      (if u.disarm then { faulted with engine := { faulted.engine with mode := .disarming .sweep } }
       else if s.engine.markPending || s.engine.undoPending then
        raise .requestRefused { faulted with engine := { faulted.engine with
          mode := .halted, markPending := false, undoPending := false } }
       else { faulted with engine := { faulted.engine with mode := .halted } })))
    let done := exec .engineAccessComplete s
    (∀ got : List Half, u.step = .header got → got.length < 5 → done = goes (.header (got ++ [v]))) ∧
    (∀ (kind epoch seq subject level : Half), u.step = .header [kind, epoch, seq, subject, level] →
      let h : SlotHeader := { kind := kind, epoch := epoch, sequence := seq, subject := subject
                              level := level, check := v }
      let named := epoch = s.engine.epoch ∧ seq.toNat = s.engine.fill - 1
      let checked := v = markerCheck epoch seq subject level ∧ highByte level = 0#8
      (u.target < s.engine.fill →
        (named → kind = 0x3C01#16 → done = goes (.data h [])) ∧
        (named → kind = 0x3C04#16 → checked → u.walkDepth + 1 ≤ (lowByte level).toNat →
          (lowByte level).toNat ≤ 4 → done = goes (.void h)) ∧
        (¬ named ∨ (kind ≠ 0x3C01#16 ∧ kind ≠ 0x3C04#16) ∨
          (kind = 0x3C04#16 ∧ ¬ (checked ∧ u.walkDepth + 1 ≤ (lowByte level).toNat ∧
            (lowByte level).toNat ≤ 4)) → done = bad)) ∧
      (s.engine.fill ≤ u.target →
        let top := named ∧ kind = 0x3C02#16 ∧ checked ∧ (lowByte level).toNat = u.walkDepth
        (top → done = goes (.void h)) ∧ (¬ top → done = bad))) ∧
    (∀ (h : SlotHeader) (got : List Half), u.step = .data h got → h.kind = 0x3C01#16 →
      (got.length < 15 → done = goes (.data h (got ++ [v]))) ∧
      (got.length = 15 →
        let good := h.check = saveCheck h.epoch h.sequence h.subject h.level (got ++ [v]) ∧
          highByte h.level = 0#8 ∧ (lowByte h.level).toNat ≤ 3 ∧ h.subject.toNat ≤ 32767 ∧
          (s.engine.slots = 0 ∨ h.subject.toNat * 32 + 32 ≤ s.engine.base * 1024 ∨
            s.engine.base * 1024 + 128 + 44 * s.engine.slots ≤ h.subject.toNat * 32)
        (good → done = goes (.restore h (got ++ [v]) 0)) ∧ (¬ good → done = bad))) ∧
    (∀ (h : SlotHeader) (data : List Half) (n : Nat), u.step = .restore h data n →
      done = goes (if n < 15 then .restore h data (n + 1) else .void h))

/-- ENGINE_ACCESS_COMPLETE of a VOID write in UNDOING (R58, R75, R78, R79, R81, R82, R89): fill falls by one;
a SAVE gives its granule its prior level back and counts; the top marker of a DROP leaves the stack. The
walk goes on above the target, ends in ACTIVE with NORMAL and UNDO_END, or after a DISARM ends in DISARMING
with ABORTED and UNDO_END. -/
def Obligations.UndoRemovesSlots : Prop :=
  ∀ (s : State) (v : Half) (u : UndoWork) (h : SlotHeader), EngineAccess s v →
    s.engine.mode = .undoing u → u.step = .void h →
    let freed := portFreed .engine s
    let removed : State :=
      if s.engine.fill ≤ u.target then { freed with engine := { s.engine with
        fill := s.engine.fill - 1, stack := s.engine.stack.dropLast } }
      else if h.kind = 0x3C01#16 then { freed with
        engine := { s.engine with fill := s.engine.fill - 1, undoCount := s.engine.undoCount + 1 }
        touch := TouchMap.set s.touch h.subject.toNat (lowByte h.level).toNat }
      else { freed with engine := { s.engine with fill := s.engine.fill - 1 } }
    let ended := fun (o : UndoOutcome) => raise .undoEnd
      { removed with engine := { removed.engine with undoOutcome := o } }
    exec .engineAccessComplete s = .next (settle
      (if u.disarm then resolveHeld { ended .aborted with
        engine := { (ended .aborted).engine with mode := .disarming .sweep } }
       else if u.target + 1 < s.engine.fill ∨ (u.target + 1 = s.engine.fill ∧ u.drop = true) then
        { removed with engine := { removed.engine with
          mode := .undoing { u with step := .header [] } } }
       else enterActive (ended .normal))) ∧
    (TouchLaw s → u.target < s.engine.fill → h.kind = 0x3C01#16 →
      ∀ g : Nat, TouchMap.level removed.touch g
        = if g = h.subject.toNat then (lowByte h.level).toNat else TouchMap.level s.touch g)

/-- ENGINE_ACCESS_COMPLETE in the scan (R106, R115, R116, R117, R118, R119): the tests of a slot in their
order, each with its stop reason; an accepted SAVE sets its granule to the running level, an accepted MARKER
pushes its checkpoint, a RELEASED slot changes fill alone; the stopped scan voids the slots from fill to
S − 1 and then ends the resume. -/
def Obligations.ScanTakesSlots : Prop :=
  ∀ (s : State) (v : Half) (auto : Bool) (l : Nat) (step : ScanStep), EngineAccess s v →
    s.engine.mode = .scanning auto l step →
    let freed := portFreed .engine s
    let goes := fun st : ScanStep => ({ freed with engine := { s.engine with
      mode := .scanning auto l st } } : State)
    let stop := fun (r : StopReason) (x : State) =>
      if x.engine.fill < x.engine.slots then
        { x with engine := { x.engine with mode := .scanning auto l (.voiding x.engine.fill r) } }
      else resumeEnd auto r x
    let accept := fun (l' : Nat) (x : State) =>
      if x.engine.fill < x.engine.slots then
        { x with engine := { x.engine with mode := .scanning auto l' (.header []) } }
      else resumeEnd auto .atEnd x
    let risen := ({ freed with engine := { s.engine with fill := s.engine.fill + 1 } } : State)
    let done := fun x : State => exec .engineAccessComplete s = .next (settle x)
    (step = .header [] →
      (v = 0x0000#16 → done (stop .void freed)) ∧
      (v = 0x3C01#16 ∨ v = 0x3C02#16 ∨ v = 0x3C04#16 → done (goes (.header [v]))) ∧
      (v ≠ 0x0000#16 → v ≠ 0x3C01#16 → v ≠ 0x3C02#16 → v ≠ 0x3C04#16 → done (stop .kind freed))) ∧
    (∀ got : List Half, step = .header got → 1 ≤ got.length → got.length < 5 →
      done (goes (.header (got ++ [v])))) ∧
    (∀ kind epoch seq subject level : Half, step = .header [kind, epoch, seq, subject, level] →
      kind = 0x3C01#16 ∨ kind = 0x3C02#16 ∨ kind = 0x3C04#16 →
      let n := (lowByte level).toNat
      let named := epoch = s.engine.epoch ∧ seq.toNat = s.engine.fill
      let checked := v = markerCheck epoch seq subject level
      (epoch ≠ s.engine.epoch → done (stop .epoch freed)) ∧
      (epoch = s.engine.epoch → seq.toNat ≠ s.engine.fill → done (stop .sequence freed)) ∧
      (named → kind = 0x3C01#16 → done (goes (.data
        { kind := kind, epoch := epoch, sequence := seq, subject := subject, level := level
          check := v } []))) ∧
      (named → kind ≠ 0x3C01#16 → ¬ checked → done (stop .check freed)) ∧
      (named → checked → kind = 0x3C02#16 →
        if l < 4 ∧ n = l + 1 then done (accept (l + 1) { risen with engine := { risen.engine with
          stack := s.engine.stack ++ [Checkpoint.mk (s.engine.fill + 1) subject
            (s.engine.stack.length + 1)] } })
        else done (stop .number freed)) ∧
      (named → checked → kind = 0x3C04#16 →
        if l + 1 ≤ n ∧ n ≤ 4 then done (accept l risen) else done (stop .number freed))) ∧
    (∀ (h : SlotHeader) (got : List Half), step = .data h got → h.kind = 0x3C01#16 →
      (got.length < 15 → done (goes (.data h (got ++ [v])))) ∧
      (got.length = 15 →
        if h.check = saveCheck h.epoch h.sequence h.subject h.level (got ++ [v]) then
          done (accept l { risen with touch :=
            if h.subject.toNat ≤ 32767 then TouchMap.set s.touch h.subject.toNat l else s.touch })
        else done (stop .check freed))) ∧
    (∀ (k : Nat) (r : StopReason), step = .voiding k r →
      done (if k + 1 < s.engine.slots then goes (.voiding (k + 1) r) else resumeEnd auto r freed))

/-- R70, R119, R120, R121, R132: the end of a resume that has scanned: the result becomes RESUMED with the stop reason
and RESUME_END is raised; without AUTO-UNDO the engine enters ACTIVE; with it an undo with KEEP begins, a pending
UNDO_REQ is merged into it, and with nothing above the top checkpoint the undo ends at once with count 0. A held
access is classified afresh: a journaled write meets its lookup in ACTIVE with no request pending, and stays held
through an undo, its timer going on (log 13). -/
def Obligations.ResumeEnds : Prop :=
  ∀ (s : State) (reason : StopReason),
    let ended := raise .resumeEnd { s with engine := { s.engine with
      resumeOutcome := .resumed, resumeStop := reason } }
    let merged : State := if s.engine.undoPending then
        raise .requestMerged { ended with engine := { ended.engine with undoPending := false } }
      else ended
    let afresh := fun (m : Mode) (o : UndoOutcome) => ({ merged with engine := { merged.engine with
      mode := m, undoCount := 0, undoOutcome := o } } : State)
    resumeEnd false reason s = enterActive ended ∧
    (s.engine.fill ≤ s.engine.topPosition →
      resumeEnd true reason s = enterActive (raise .undoEnd (afresh .active .normal))) ∧
    (s.engine.topPosition < s.engine.fill →
      resumeEnd true reason s = resolveHeld (afresh (.undoing (UndoWork.mk s.engine.topPosition false
        s.engine.stack.length false (.header []))) .none)) ∧
    (∀ a : HostAccess, s.host.access = some a → a.stage = .held .engine → a.dir = .write →
      journaled s a.addr = true → s.engine.mode ≠ .off → s.regions.areaBase = s.engine.base →
      s.regions.areaSlots = s.engine.slots →
      (s.engine.markPending = false → s.engine.undoPending = false →
        resumeEnd false reason s = lookupWrite a { ended with
          engine := { ended.engine with mode := .active } }) ∧
      (∀ l : Byte, a.timer = some l → s.engine.topPosition < s.engine.fill →
        (resumeEnd true reason s).host
          = { s.host with access := some { a with watch := none } }))

/-- R111, R145, R187: the tests of the newer valid copy, the range tests of its entries among them. -/
def Obligations.HeadRecordTests : Prop :=
  (∀ code b len : Nat, ∀ r : Region, regionOf code b len = some r ↔
    code ≤ 4 ∧ b ≤ 1023 ∧ 1 ≤ len ∧ len ≤ 1024 ∧ b + len ≤ 1024 ∧
      modeCode r.mode = code ∧ r.base = b ∧ r.length = len) ∧
  (∀ (b : Nat) (ws : List Half),
    let slots := (word ws 3).toNat
    let st := word ws 4
    let entry := fun i : Fin 8 => regionOf ((word ws (5 + 2 * i.val)).toNat / 4096)
      ((word ws (5 + 2 * i.val)).toNat % 4096) (word ws (6 + 2 * i.val)).toNat
    let rejected := slots < 16 ∨ 8192 < slots ∨ (st ≠ 1#16 ∧ st ≠ 2#16 ∧ st ≠ 3#16) ∨
      word ws 2 = 0x0000#16 ∨ 1048576 < b * 1024 + 128 + 44 * slots ∨ (∃ i, entry i = none) ∨
      (st ≠ 3#16 ∧ ∃ i, ∃ r ∈ entry i, r.mode = .journal ∧
        max (r.base * 1024) (b * 1024) < min ((r.base + r.length) * 1024) (b * 1024 + 128 + 44 * slots))
    (rejected → headOutcome b ws = .badHead) ∧
    (¬ rejected → headOutcome b ws
      = if st = 3#16 then .notArmed else if st = 2#16 then .broken else .armed))

/-- ENGINE_ACCESS_COMPLETE at the 64th head read of a resume (R7, R110, R112, R113): the newer valid copy gives
the head sequence and the current copy, and unless it is rejected S, the epoch and the region table, with the
region block's copy of S; NO-HEAD, BAD-HEAD and NOT-ARMED end in OFF, BROKEN in BROKEN, each with RESUME_END;
an ARMED head begins the scan, and a held access is classified afresh. -/
def Obligations.ResumeHeadPhase : Prop :=
  ∀ (s : State) (v : Half) (auto : Bool) (l : Nat) (got : List Half), EngineAccess s v →
    s.engine.mode = .scanning auto l (.heads got) →
    let freed := portFreed .engine s
    let a := got.take 32
    let b := got.drop 32 ++ [v]
    let newer : Option (List Half) := (newerCopy a b).map fun c => match c with
      | .a => a
      | .b => b
    let chosen : State := { freed with engine := { s.engine with
      headSequence := (newer.map fun ws => word ws 1).getD 0#16, current := newerCopy a b } }
    let restored := fun ws : List Half => ({ chosen with
      engine := { chosen.engine with epoch := word ws 2, slots := (word ws 3).toNat }
      regions := { s.regions with
        areaBase := s.engine.base, areaSlots := (word ws 3).toNat
        entries := (headTable ws).getD s.regions.entries } } : State)
    let result := fun (o : ResumeOutcome) (x : State) => raise .resumeEnd
      { x with engine := { x.engine with resumeOutcome := o, resumeStop := .none } }
    (got.length < 63 → exec .engineAccessComplete s = .next (settle { freed with
      engine := { s.engine with mode := .scanning auto l (.heads (got ++ [v])) } })) ∧
    (got.length = 63 → exec .engineAccessComplete s = .next (settle (match newer with
      | none => endInOff (result .noHead chosen)
      | some ws => match headOutcome s.engine.base ws with
        | .badHead => endInOff (result .badHead chosen)
        | .notArmed => endInOff (result .notArmed (restored ws))
        | .broken => endInBroken (result .broken (restored ws))
        | .armed => resolveHeld { restored ws with engine := { (restored ws).engine with
            mode := .scanning auto l (.header []) } }))) ∧
    (∀ ws, (∀ i : Fin 8, (headRegionOf ws i.val).isSome = true) →
      ∀ i : Fin 8, some ((restored ws).regions.entries.get i) = headRegionOf ws i.val)

/-- CLEAR_SWEEP_COMPLETE (R31, R45, R53, R95, R100, R103): every level is 0, and the sweep's operation goes on
to its wipe, exactly when the new epoch is 1, or its head write; BREAKING ends in BROKEN. -/
def Sys2Proof.Claims.ClearSweepCompletes : Prop :=
  ∀ s : State, s.power = .running →
    let cleared := fun m : Mode => ({ s with engine := { s.engine with mode := m }, touch := [] } : State)
    let first := fun epoch : Half => if epoch = 1#16 ∧ s.engine.slots ≠ 0 then BuildStep.wipe 0
      else .writeHead (newHeadWrite 1#16 epoch s)
    let done := exec .clearSweepComplete s
    (∀ epoch, s.engine.mode = .arming (.build epoch .sweep) →
      done = .next (settle (cleared (.arming (.build epoch (first epoch)))))) ∧
    (∀ epoch, s.engine.mode = .committing epoch .sweep →
      done = .next (settle (cleared (.committing epoch (first epoch))))) ∧
    (s.engine.mode = .disarming .sweep →
      done = .next (settle (cleared (.disarming
        (.writeHead (newHeadWrite 3#16 s.engine.epoch s)))))) ∧
    (s.engine.mode = .breaking .sweep →
      done = .next (settle (endInBroken (cleared (.breaking .sweep))))) ∧
    (∀ (m : Mode) (g : Nat), TouchMap.level (cleared m).touch g = 0)

/-- RELABEL_SWEEP_COMPLETE (R30, R63): every level equal to depth d becomes d − 1 and every other stays, and
RELEASING goes on to its kind write. -/
def Sys2Proof.Claims.RelabelSweepCompletes : Prop :=
  ∀ s : State, s.power = .running → s.engine.mode = .releasing .sweep → TouchLaw s →
    ∃ touch : TouchMap,
      exec .relabelSweepComplete s = .next (settle { s with
        engine := { s.engine with mode := .releasing .writeKind }, touch := touch }) ∧
      ∀ g : Nat, TouchMap.level touch g
        = if TouchMap.level s.touch g = s.engine.stack.length then s.engine.stack.length - 1
          else TouchMap.level s.touch g

/-- R30, R31: the two sweeps of the touch map. -/
def Obligations.SweepsComplete : Prop :=
  Claims.ClearSweepCompletes ∧ Claims.RelabelSweepCompletes

/-! ## Request lines -/

/-- MARK_REQ_EDGE and the fall of MARK_REQ (R65 to R68, R59): an edge is taken once from a line seen low and
with its enable set; while an operation runs it sets the pending flag or raises REQUEST_MERGED; in OFF,
BROKEN and HALTED it is refused; in ACTIVE it is tested on depth before space and begins a MARK labelled
FFFFh. -/
def Sys2Proof.Claims.MarkRequestLine : Prop :=
  ∀ s : State, s.power = .running →
    let seen : State := { s with engine := { s.engine with markLine := true } }
    let edge := exec .markReqEdge s
    let n := s.engine.mode.name
    exec (.requestLineFall .mark) s
      = .next { s with engine := { s.engine with markLine := false } } ∧
    (s.engine.markLine = true → edge = .next s) ∧
    (s.engine.markLine = false → s.engine.markEnable = false → edge = .next seen) ∧
    (s.engine.markLine = false → s.engine.markEnable = true →
      (n.resting = false → s.engine.markPending = false → edge
        = .next (settle { seen with engine := { seen.engine with markPending := true } })) ∧
      (n.resting = false → s.engine.markPending = true →
        edge = .next (settle (raise .requestMerged seen))) ∧
      (n = .off ∨ n = .broken ∨ n = .halted →
        edge = .next (settle (raise .requestRefused seen))) ∧
      (n = .active → 4 ≤ s.engine.stack.length →
        edge = .next (settle (raise .requestRefused seen))) ∧
      (n = .active → s.engine.stack.length < 4 → s.engine.slots ≤ s.engine.fill →
        edge = .next (settle (raise .journalFull (raise .requestRefused seen)))) ∧
      (n = .active → s.engine.stack.length < 4 → s.engine.fill < s.engine.slots →
        edge = .next (settle (reclassifyWaiting { seen with
          engine := { seen.engine with mode := .marking 0xFFFF#16 0 } }))))

/-- UNDO_REQ_EDGE and the fall of UNDO_REQ (R65 to R68, R73, R74, R81): as MARK_REQ; in ACTIVE an undo with
KEEP begins, and ends at its entry when fill has come down to the top checkpoint. That a waiting forward is then
classified afresh in UNDOING and again in ACTIVE is the model's reading of R149 (log 22). -/
def Sys2Proof.Claims.UndoRequestLine : Prop :=
  ∀ s : State, s.power = .running →
    let seen : State := { s with engine := { s.engine with undoLine := true } }
    let edge := exec .undoReqEdge s
    let n := s.engine.mode.name
    let begun := reclassifyWaiting { seen with engine := { seen.engine with
      mode := .undoing (UndoWork.mk s.engine.topPosition false s.engine.stack.length false (.header []))
      undoCount := 0, undoOutcome := .none } }
    exec (.requestLineFall .undo) s
      = .next { s with engine := { s.engine with undoLine := false } } ∧
    (s.engine.undoLine = true → edge = .next s) ∧
    (s.engine.undoLine = false → s.engine.undoEnable = false → edge = .next seen) ∧
    (s.engine.undoLine = false → s.engine.undoEnable = true →
      (n.resting = false → s.engine.undoPending = false → edge
        = .next (settle { seen with engine := { seen.engine with undoPending := true } })) ∧
      (n.resting = false → s.engine.undoPending = true →
        edge = .next (settle (raise .requestMerged seen))) ∧
      (n = .off ∨ n = .broken ∨ n = .halted →
        edge = .next (settle (raise .requestRefused seen))) ∧
      (n = .active → s.engine.topPosition < s.engine.fill → edge = .next (settle begun)) ∧
      (n = .active → s.engine.fill ≤ s.engine.topPosition →
        edge = .next (settle (enterActive (raise .undoEnd { begun with
          engine := { begun.engine with undoOutcome := .normal } })))))

/-- R65 to R68: the two request lines. -/
def Obligations.RequestLines : Prop :=
  Claims.MarkRequestLine ∧ Claims.UndoRequestLine

/-! ## The link: framing and the link reader -/

/-- LINK_SHORT_FRAME, LINK_FRAME_CUT, UNKNOWN_COMMAND and NSS_RISE_AFTER_RELEASE (R173, R175, R176, R185,
R186): a short frame and an unknown code latch LINK_ERROR, the latter answered UNKNOWN whatever byte follows;
a cut frame latches nothing; each ends the link reader's series, and nSS is high after a short or a cut frame.
The first rise of nSS after the release opens the link; it occurs only there (log 5). -/
def Sys2Proof.Claims.FramingSteps : Prop :=
  ∀ s : State, s.power = .running →
    (s.link.ignoring = false →
      exec .linkShortFrame s = .next (raise .linkError (frameEnded s)) ∧
      exec .linkFrameCut s = .next (frameEnded s) ∧
      (∀ code next : Byte, code ∉ knownCodes → exec (.unknownCommand code next) s
        = .next (replied code .unknown [] (raise .linkError (frameBegun s))))) ∧
    (s.link.ignoring = true → exec .nssRiseAfterRelease s
      = .next { s with link := { s.link with selected := false, ignoring := false } }) ∧
    (s.link.ignoring = false → exec .nssRiseAfterRelease s = .next s)

/-- R37, R172, R186: with nRST low, without supply, or before nSS has risen after the release, the link takes
no frame. -/
def Sys2Proof.Claims.LinkIgnoresFrames : Prop :=
  ∀ (i : Instr) (s : State), i.wellFormed = true →
    frameBytes i ≠ [] ∨ i = .linkShortFrame ∨ i = .linkFrameCut →
    s.power ≠ .running ∨ s.link.ignoring = true → exec i s = .next s

/-- R169, R186: SDO is driven only while the part runs and nSS is low after having been seen high. At bit
position n it then carries bit 7 − n mod 8 of byte n / 8 of the frame: 00h until the command is taken, the
frame's bytes with its response, FFh beyond them. -/
def Sys2Proof.Claims.SdoLevel : Prop :=
  ∀ (s : State) (n : Nat),
    (s.power ≠ .running ∨ s.link.selected = false ∨ s.link.ignoring = true → s.sdo n = none) ∧
    (s.power = .running → s.link.selected = true → s.link.ignoring = false →
      (s.link.frame = none → s.sdo n = some false) ∧
      (∀ f : Frame, s.link.frame = some f →
        (∀ b : Byte, f.sdoBytes[n / 8]? = some b → s.sdo n = some (b.getLsbD (7 - n % 8))) ∧
        (f.sdoBytes.length ≤ n / 8 → s.sdo n = some true)))

/-- R169: bytes sent most significant bit first from a fall of nSS are received as those bytes, whatever level SCK
had at the fall, and SDO then still shows the bit of the last one sampled. Before SCK has been seen low nothing is
sampled and the first bit stays on SDO; edges with nSS high are ignored. -/
def Sys2Proof.Claims.BitsOfAFrame : Prop :=
  ∀ w : Wire, w.selected = false →
    (∀ bytes : List Byte,
      let t := (w.setNss true).clockAll (sendBytes bytes)
      t.bytes = bytes ∧ t.sampled.length = 8 * bytes.length ∧ t.selected = true ∧
      t.shown = 8 * bytes.length - 1) ∧
    (∀ sdi : Bool, w.sck = true →
      (w.setNss true).clock true sdi = w.setNss true ∧
      (w.setNss true).clock false sdi
        = { selected := true, sck := false, sampled := [], shown := 0 }) ∧
    (∀ level sdi : Bool, w.clock level sdi = { w with sck := level })

/-- R169, R172, R173, R175, R176, R186: the steps of the link's framing, where the link takes no frame, what SDO
carries, and which bits a frame's clock edges sample. -/
def Obligations.LinkFraming : Prop :=
  Claims.FramingSteps ∧ Claims.LinkIgnoresFrames ∧ Claims.SdoLevel ∧ Claims.BitsOfAFrame

/-- R174: a known command whose CRC byte does not match is answered CHECK with zeros under their response CRC,
after its dummy bytes of zeros, and latches LINK_ERROR; nothing else changes but the frame and series before
it, which have ended (log 10). -/
def Obligations.CrcMismatchAnswersCheck : Prop :=
  ∀ (i : Instr) (s : State) (c : Byte), codeOf (commandBytes i) ∈ knownCodes →
    i.wellFormed = true → s.power = .running → s.link.ignoring = false →
    crcByte i = some c → c ≠ crc8 (commandBytes i) →
    let code := codeOf (commandBytes i)
    let answer : List Byte := 0xA7#8 :: List.replicate (responseBytes code) 0x00#8
    let t := repliedZeros code .check (raise .linkError (frameBegun s))
    exec i s = .next t ∧
    t.link.frame.map Frame.sdoBytes
      = some (List.replicate ((commandBytes i).length + 1 + dummyBytes code) 0x00#8 ++ answer
        ++ [crc8 answer])

/-- READ_SLOT (R183): RANGE with S 0 or an index of S or above; otherwise a series of 22 reads of the slot
begins, and its frame waits for it. -/
def Sys2Proof.Claims.ReadSlotTaken : Prop :=
  ∀ (s : State) (index : Half) (crc : Byte), Taken (.readSlot index crc) s →
    s.engine.base * 1024 + 128 + 44 * s.engine.slots ≤ 1048576 →
    let u := frameBegun s
    let start : HalfAddr := BitVec.ofNat 19 ((s.engine.base * 1024 + 128 + 44 * index.toNat) / 2)
    (s.engine.slots ≤ index.toNat →
      exec (.readSlot index crc) s = .next (repliedZeros 0x30#8 .range u)) ∧
    (index.toNat < s.engine.slots → exec (.readSlot index crc) s = .next (grant { u with
      link := { u.link with
        frame := some { code := 0x30#8, response := none }
        reader := some { start := start, total := 22, got := [] } }
      port := { u.port with link := some { addr := start, data := none, lanes := bothLanes } } }))

/-- READ_HEAD (R184): copy 0 is A at base + 0 and copy 1 is B at base + 64, whether the area is configured or
not; another selector is answered RANGE. -/
def Sys2Proof.Claims.ReadHeadTaken : Prop :=
  ∀ (s : State) (copy crc : Byte), Taken (.readHead copy crc) s → s.engine.base ≤ 1023 →
    let u := frameBegun s
    let start : HalfAddr := BitVec.ofNat 19 ((s.engine.base * 1024 + 64 * copy.toNat) / 2)
    (2 ≤ copy.toNat → exec (.readHead copy crc) s = .next (repliedZeros 0x31#8 .range u)) ∧
    (copy.toNat ≤ 1 → exec (.readHead copy crc) s = .next (grant { u with
      link := { u.link with
        frame := some { code := 0x31#8, response := none }
        reader := some { start := start, total := 32, got := [] } }
      port := { u.port with link := some { addr := start, data := none, lanes := bothLanes } } }))

/-- R183, R184: READ_SLOT and READ_HEAD. -/
def Obligations.LinkReaderBegins : Prop :=
  Claims.ReadSlotTaken ∧ Claims.ReadHeadTaken

/-- LINK_READ_COMPLETE (R139, R183, R185): the halfword found at the grant joins the series, and the next
address is requested while reads remain; a read whose series has ended is discarded. -/
def Sys2Proof.Claims.LinkReadCompletes : Prop :=
  ∀ (s : State) (b : PortBusy), s.power = .running → s.port.busy = some b → b.who = .link →
    let freed := portFreed .link s
    (b.discard = true → exec .linkReadComplete s = .next (grant freed)) ∧
    (∀ r : Reader, b.discard = false → s.link.reader = some r →
      exec .linkReadComplete s = .next (grant { freed with
        link := { s.link with reader := some { r with got := r.got ++ [b.seen] } }
        port := { freed.port with
          link := (if r.got.length + 1 < r.total then
              some (readAt (r.start + BitVec.ofNat 19 (r.got.length + 1)))
            else none) } }))

/-- LINK_READ_STATUS_DUE (R183, R184, R185): with every read complete the status is OK and the data are the
halfwords read, each high byte first; otherwise it is BUSY with zeros, and the series ends. -/
def Sys2Proof.Claims.LinkReadStatusDue : Prop :=
  ∀ (s : State) (f : Frame) (r : Reader), s.power = .running → s.link.frame = some f →
    f.response = none → s.link.reader = some r →
    exec .linkReadStatusDue s = .next
      (if r.total ≤ r.got.length then
        replied f.code .ok (r.got.flatMap fun h => [highByte h, lowByte h]) (seriesEnded s)
       else repliedZeros f.code .busy (seriesEnded s))

/-- R183, R185: LINK_READ_COMPLETE and LINK_READ_STATUS_DUE. -/
def Obligations.LinkReaderEnds : Prop :=
  Claims.LinkReadCompletes ∧ Claims.LinkReadStatusDue

/-! ## The link: observation commands -/

/-- STATUS (R178, R189, R190): the 35 bytes of its response, each wider field most significant byte first, and
nothing else changes; with the codes of the statuses, states, outcomes and stop reasons. -/
def Obligations.StatusReports : Prop :=
  [Status.ok, .accepted, .busy, .state, .range, .depth, .full, .check, .unknown].map statusByte
    = [0xA0#8, 0xA1#8, 0xA2#8, 0xA3#8, 0xA4#8, 0xA5#8, 0xA6#8, 0xA7#8, 0xA8#8] ∧
  [StateName.off, .arming, .active, .saving, .marking, .releasing, .undoing, .committing, .disarming,
    .recording, .breaking, .broken, .halted, .scanning].map stateByte
    = (List.range 14).map (BitVec.ofNat 8) ∧
  [UndoOutcome.none, .normal, .aborted, .fault].map undoOutcomeByte
    = (List.range 4).map (BitVec.ofNat 8) ∧
  [ResumeOutcome.none, .noHead, .badHead, .notArmed, .broken, .resumed].map resumeOutcomeByte
    = (List.range 6).map (BitVec.ofNat 8) ∧
  [StopReason.none, .void, .kind, .epoch, .sequence, .check, .number, .atEnd].map stopReasonByte
    = (List.range 8).map (BitVec.ofNat 8) ∧
  ∀ (s : State) (crc : Byte), Taken (.status crc) s →
    let e := s.engine
    let place := fun k : Nat => match e.stack[k]? with
      | some c => twoBytes c.position ++ twoBytes c.label.toNat
      | none => [0#8, 0#8, 0#8, 0#8]
    exec (.status crc) s = .next (replied 0x01#8 .ok
      ([stateByte e.mode.name, BitVec.ofNat 8 e.stack.length] ++ twoBytes e.fill ++ twoBytes e.slots
        ++ twoBytes e.base ++ twoBytes e.epoch.toNat
        ++ place 0 ++ place 1 ++ place 2 ++ place 3
        ++ [BitVec.ofNat 8 ((if e.markPending then 1 else 0) + (if e.undoPending then 2 else 0))]
        ++ twoBytes e.undoCount
        ++ [undoOutcomeByte e.undoOutcome, resumeOutcomeByte e.resumeOutcome,
            stopReasonByte e.resumeStop]
        ++ twoBytes s.causes.latches.toNat ++ [BitVec.ofNat 8 s.records.queue.length])
      (frameBegun s))

/-- FETCH_CAUSE (R157, R160): of the latched causes above the threshold the one of the highest level, and of
those the lowest number, is returned and its latch cleared; a level cause whose condition holds is renewed
at once; with none, NONE is returned and nothing is cleared. -/
def Sys2Proof.Claims.FetchCauseTaken : Prop :=
  ∀ (s : State) (crc : Byte), Taken (.fetchCause crc) s →
    let counts := fun n : Fin 16 =>
      s.causes.latches.getLsbD n.val = true ∧ s.causes.threshold < s.causes.levels.get n
    let u := frameBegun s
    ((∀ n, ¬ counts n) → exec (.fetchCause crc) s = .next (replied 0x02#8 .ok
      ([0xFF#8, 0x00#8] ++ twoBytes s.causes.latches.toNat) u)) ∧
    (∀ n, counts n →
      (∀ m, counts m → s.causes.levels.get m < s.causes.levels.get n ∨
        (s.causes.levels.get m = s.causes.levels.get n ∧ n ≤ m)) →
      let left := (s.causes.latches &&& ~~~ (1#16 <<< n.val)) ||| heldLatches s
      exec (.fetchCause crc) s = .next (replied 0x02#8 .ok
        ([BitVec.ofNat 8 n.val, BitVec.ofNat 8 (s.causes.levels.get n).val] ++ twoBytes left.toNat)
        { u with causes := CauseUnit.follow { s.causes with latches := left } }))

/-- CLEAR_CAUSES (R157, R161): the latches named by the mask are cleared, those of level causes whose
condition holds are renewed at once, and the summary after the clear is returned. -/
def Sys2Proof.Claims.ClearCausesTaken : Prop :=
  ∀ (s : State) (mask : Half) (crc : Byte), Taken (.clearCauses mask crc) s →
    let left : BitVec 16 := (s.causes.latches &&& ~~~ mask) ||| heldLatches s
    exec (.clearCauses mask crc) s = .next (replied 0x03#8 .ok (twoBytes left.toNat)
      { frameBegun s with causes := CauseUnit.follow { s.causes with latches := left } })

/-- R160, R161: FETCH_CAUSE and CLEAR_CAUSES. -/
def Obligations.CausesFetchedAndCleared : Prop :=
  Claims.FetchCauseTaken ∧ Claims.ClearCausesTaken

/-- SET_CAUSE_LEVEL and SET_THRESHOLD (R158, R159): a value in range is set and ALERT follows; a cause above
15, a level above 7 or a threshold above 7 is answered RANGE and changes nothing. No latch changes. Every level
and the threshold are 0 after reset; with the threshold 7, or every level 0, ALERT stays deasserted and
FETCH_CAUSE chooses no cause. -/
def Obligations.LevelAndThresholdTaken : Prop :=
  (∀ (s : State) (cause level crc : Byte), Taken (.setCauseLevel cause level crc) s →
    (∀ (n : Fin 16) (l : Fin 8), cause.toNat = n.val → level.toNat = l.val →
      exec (.setCauseLevel cause level crc) s = .next (replied 0x04#8 .ok []
        { frameBegun s with causes :=
            CauseUnit.follow { s.causes with levels := s.causes.levels.set n.val l } })) ∧
    (16 ≤ cause.toNat ∨ 8 ≤ level.toNat →
      exec (.setCauseLevel cause level crc) s = .next (replied 0x04#8 .range [] (frameBegun s)))) ∧
  (∀ (s : State) (threshold crc : Byte), Taken (.setThreshold threshold crc) s →
    (∀ l : Fin 8, threshold.toNat = l.val →
      exec (.setThreshold threshold crc) s = .next (replied 0x05#8 .ok []
        { frameBegun s with causes := CauseUnit.follow { s.causes with threshold := l } })) ∧
    (8 ≤ threshold.toNat →
      exec (.setThreshold threshold crc) s = .next (replied 0x05#8 .range [] (frameBegun s)))) ∧
  (∀ n : Fin 16, State.reset.causes.levels.get n = 0) ∧ State.reset.causes.threshold = 0 ∧
  (∀ u : CauseUnit, u.threshold = 7 ∨ (∀ n : Fin 16, u.levels.get n = 0) →
    u.follow.alert = false ∧ u.chosen = none) ∧
  (∀ u : CauseUnit, u.follow = { u with alert := u.follow.alert } ∧
    (u.follow.alert = true ↔
      ∃ n : Fin 16, u.latches.getLsbD n.val = true ∧ u.threshold < u.levels.get n))

/-- READ_RECORD (R167, R191): the oldest record is returned and removed with the count left, or EMPTY; the
overrun flag is reported and cleared either way. -/
def Sys2Proof.Claims.ReadRecordTaken : Prop :=
  ∀ (s : State) (crc : Byte), Taken (.readRecord crc) s →
    let q := s.records
    let flag : Byte := if q.overrun then 0x40#8 else 0x00#8
    let after := ({ frameBegun s with
      records := { q with queue := q.queue.drop 1, overrun := false } } : State)
    (q.queue = [] → exec (.readRecord crc) s = .next (replied 0x06#8 .ok
      (flag :: List.replicate 9 0x00#8) after)) ∧
    (∀ (r : AccessRecord) (rest : List AccessRecord), q.queue = r :: rest →
      let byteAddress := 2 * r.addr.toNat
      exec (.readRecord crc) s = .next (replied 0x06#8 .ok
        [0x80#8 + flag, r.sequence, BitVec.ofNat 8 (byteAddress / 65536),
         BitVec.ofNat 8 (byteAddress / 256), BitVec.ofNat 8 byteAddress,
         BitVec.ofNat 8 ((if r.dir = .write then 1 else 0) + (if r.lanes.lower then 2 else 0)
           + (if r.lanes.upper then 4 else 0) + (if r.outcome = .refused then 8 else 0)),
         highByte r.data, lowByte r.data, BitVec.ofNat 8 r.region.val, BitVec.ofNat 8 rest.length]
        after))

/-- READ_REGION (R154): the entry's mode code, base and length as they stand, or RANGE for an index above 7;
it changes nothing. -/
def Sys2Proof.Claims.ReadRegionTaken : Prop :=
  ∀ (s : State) (index crc : Byte), Taken (.readRegion index crc) s →
    (∀ i : Fin 8, index.toNat = i.val →
      let r := s.regions.entries.get i
      exec (.readRegion index crc) s = .next (replied 0x11#8 .ok
        ([BitVec.ofNat 8 (match r.mode with
          | .disabled => 0 | .journal => 1 | .guard => 2 | .watch => 3 | .guardWatch => 4)]
          ++ twoBytes r.base ++ twoBytes r.length) (frameBegun s))) ∧
    (8 ≤ index.toNat →
      exec (.readRegion index crc) s = .next (repliedZeros 0x11#8 .range (frameBegun s)))

/-- R154, R167: READ_RECORD and READ_REGION. -/
def Obligations.ReadRecordAndRegion : Prop :=
  Claims.ReadRecordTaken ∧ Claims.ReadRegionTaken

/-- SET_OPTIONS (R180, R181, R40, R41): a select above 15 or a selected field outside its values is answered
RANGE and nothing changes; otherwise the selected fields are written, but a change of policy while an
operation runs is answered BUSY and not made; the response carries the four options after the command, and
JOURNAL_HIGH is evaluated again. -/
def Obligations.SetOptionsTaken : Prop :=
  ∀ (s : State) (select hold policy : Byte) (high : Half) (enables crc : Byte),
    Taken (.setOptions select hold policy high enables crc) s →
    let u := frameBegun s
    let bit := fun n : Nat => select.getLsbD n
    let outside := 16 ≤ select.toNat ∨ (bit 1 = true ∧ 2 ≤ policy.toNat) ∨
      (bit 2 = true ∧ 8193 ≤ high.toNat) ∨ (bit 3 = true ∧ 4 ≤ enables.toNat)
    let asked : Policy := if policy = 0#8 then .refuse else .breakJournal
    let changes := bit 1 = true ∧ asked ≠ s.engine.policy
    let busy := s.engine.mode.name.resting = false
    let answer := fun (st : Status) (x : State) => exec (.setOptions select hold policy high enables crc) s
      = .next (replied 0x13#8 st
        ([x.host.holdLimit, if x.engine.policy = .refuse then 0x00#8 else 0x01#8]
          ++ twoBytes x.engine.highMark ++ [BitVec.ofNat 8 ((if x.engine.markEnable then 1 else 0)
            + (if x.engine.undoEnable then 2 else 0))]) x)
    let written := fun p : Policy => renew { u with
      host := { s.host with holdLimit := (if bit 0 then hold else s.host.holdLimit) }
      engine := { s.engine with
        policy := p
        highMark := (if bit 2 then high.toNat else s.engine.highMark)
        markEnable := (if bit 3 then enables.getLsbD 0 else s.engine.markEnable)
        undoEnable := (if bit 3 then enables.getLsbD 1 else s.engine.undoEnable) } }
    (outside → answer .range u) ∧
    (¬ outside → changes → busy → answer .busy (written s.engine.policy)) ∧
    (¬ outside → changes → ¬ busy → answer .ok (written asked)) ∧
    (¬ outside → ¬ changes → answer .ok (written s.engine.policy))

/-! ## The link: operation commands -/

/-- R35, R177: a state-changing command is answered BUSY while an operation runs, a first DISARM in UNDOING
apart, and STATE in a resting state that does not take it; it then has no effect. -/
def Obligations.StateTableOfCommands : Prop :=
  ∀ (i : Instr) (s : State), i.wellFormed = true → Taken i s →
    let code := codeOf (commandBytes i)
    let n := s.engine.mode.name
    code ∈ operationCodes →
    (n.resting = false → (code ≠ 0x21#8 ∨ n ≠ .undoing ∨ disarmTaken s.engine.mode = true) →
      exec i s = .next (replied code .busy [] (frameBegun s))) ∧
    (n.resting = true → takenIn code s.engine.fill n = false →
      exec i s = .next (replied code .state [] (frameBegun s)))

/-- ARM in OFF (R38, R43, R146, R149): RANGE when S is 0, the area does not fit or an enabled JOURNAL entry
overlaps it; otherwise ARMING begins with its head reads over an empty journal and the base alone. -/
def Sys2Proof.Claims.ArmTaken : Prop :=
  ∀ (s : State) (crc : Byte), Taken (.arm crc) s → s.engine.mode = .off → BlockLaws s →
    let start := s.engine.base * 1024
    let finish := start + 128 + 44 * s.engine.slots
    let passes := s.engine.slots ≠ 0 ∧ finish ≤ 1048576 ∧
      ∀ i : Fin 8, let r := s.regions.entries.get i
        r.mode = .journal → (r.base + r.length) * 1024 ≤ start ∨ finish ≤ r.base * 1024
    (¬ passes → exec (.arm crc) s = .next (replied 0x20#8 .range [] (frameBegun s))) ∧
    (passes → exec (.arm crc) s = .next (settle (replied 0x20#8 .accepted []
      (reclassifyWaiting { frameBegun s with engine := { s.engine with
        mode := .arming (.readHeads []), fill := 0, stack := [base] } }))))

/-- RESUME in OFF (R108, R109, R182): an option above 1 is answered RANGE; otherwise SCANNING begins with its
head phase, fill 0, the base alone, the running level 1 and the last-resume result NONE. -/
def Sys2Proof.Claims.ResumeTaken : Prop :=
  ∀ (s : State) (option crc : Byte), Taken (.resume option crc) s → s.engine.mode = .off →
    (2 ≤ option.toNat →
      exec (.resume option crc) s = .next (replied 0x26#8 .range [] (frameBegun s))) ∧
    (option.toNat ≤ 1 → exec (.resume option crc) s = .next (settle (replied 0x26#8 .accepted []
      (reclassifyWaiting { frameBegun s with engine := { s.engine with
        mode := .scanning (option.toNat == 1) 1 (.heads []), fill := 0, stack := [base]
        resumeOutcome := .none, resumeStop := .none } }))))

/-- R43, R108: ARM and RESUME in OFF. -/
def Obligations.ArmAndResumeTaken : Prop :=
  Claims.ArmTaken ∧ Claims.ResumeTaken

/-- MARK and RELEASE in ACTIVE (R59, R62): MARK is tested on depth before space, and FULL raises
JOURNAL_FULL; RELEASE of the base alone is answered DEPTH; otherwise the operation begins. -/
def Sys2Proof.Claims.MarkAndReleaseTaken : Prop :=
  ∀ (s : State) (crc : Byte), s.engine.mode = .active →
    let u := frameBegun s
    let depth := s.engine.stack.length
    let begins := fun (code : Byte) (m : Mode) => Host.Outcome.next (ρ := Refusal) (φ := Fault)
      (settle (replied code .accepted []
        (reclassifyWaiting { u with engine := { s.engine with mode := m } })))
    (∀ label : Half, Taken (.mark label crc) s →
      (4 ≤ depth → exec (.mark label crc) s = .next (replied 0x22#8 .depth [] u)) ∧
      (depth < 4 → s.engine.slots ≤ s.engine.fill →
        exec (.mark label crc) s = .next (replied 0x22#8 .full [] (raise .journalFull u))) ∧
      (depth < 4 → s.engine.fill < s.engine.slots →
        exec (.mark label crc) s = begins 0x22#8 (.marking label 0))) ∧
    (Taken (.release crc) s →
      (depth ≤ 1 → exec (.release crc) s = .next (replied 0x23#8 .depth [] u)) ∧
      (2 ≤ depth → exec (.release crc) s = begins 0x23#8 (.releasing .sweep)))

/-- UNDO in ACTIVE (R72, R74, R81, R182): an option above 1 is answered RANGE, DROP of the base DEPTH;
otherwise UNDOING begins with its target, option and walk depth fixed and its result afresh, and a KEEP with
nothing above the target ends at once, a waiting forward classified afresh in UNDOING and again in ACTIVE as the
model reads R149 (log 22). -/
def Sys2Proof.Claims.UndoTaken : Prop :=
  ∀ (s : State) (option crc : Byte), Taken (.undo option crc) s → s.engine.mode = .active →
    let u := frameBegun s
    let drop := option.toNat == 1
    let begun := reclassifyWaiting { u with engine := { s.engine with
      mode := .undoing (UndoWork.mk s.engine.topPosition drop s.engine.stack.length false (.header []))
      undoCount := 0, undoOutcome := .none } }
    (2 ≤ option.toNat → exec (.undo option crc) s = .next (replied 0x24#8 .range [] u)) ∧
    (option.toNat = 1 → s.engine.stack.length ≤ 1 →
      exec (.undo option crc) s = .next (replied 0x24#8 .depth [] u)) ∧
    (option.toNat = 1 ∧ 2 ≤ s.engine.stack.length ∨
        option.toNat = 0 ∧ s.engine.topPosition < s.engine.fill →
      exec (.undo option crc) s = .next (settle (replied 0x24#8 .accepted [] begun))) ∧
    (option.toNat = 0 → s.engine.fill ≤ s.engine.topPosition →
      exec (.undo option crc) s = .next (settle (replied 0x24#8 .accepted []
        (enterActive (raise .undoEnd { begun with
          engine := { begun.engine with undoOutcome := .normal } })))))

/-- R59, R62, R72: MARK, RELEASE and UNDO in ACTIVE. -/
def Obligations.MarkReleaseUndoTaken : Prop :=
  Claims.MarkAndReleaseTaken ∧ Claims.UndoTaken

/-- COMMIT and DISARM in ACTIVE, BROKEN and HALTED (R93, R94, R99, R103): COMMITTING begins with the new epoch
fixed, DISARMING begins, each with its clear sweep; from BROKEN the base alone stands over fill 0. -/
def Sys2Proof.Claims.CommitAndDisarmTaken : Prop :=
  ∀ (s : State) (crc : Byte),
    s.engine.mode = .active ∨ s.engine.mode = .broken ∨ s.engine.mode = .halted →
    let begins := fun (code : Byte) (m : Mode) => Host.Outcome.next (ρ := Refusal) (φ := Fault)
      (settle (replied code .accepted [] (reclassifyWaiting { frameBegun s with
        engine := { s.engine with
          mode := m
          fill := (if s.engine.mode = .broken then 0 else s.engine.fill)
          stack := (if s.engine.mode = .broken then [base] else s.engine.stack) } })))
    (Taken (.commit crc) s →
      exec (.commit crc) s = begins 0x25#8 (.committing (nextEpoch s.engine.epoch) .sweep)) ∧
    (Taken (.disarm crc) s → exec (.disarm crc) s = begins 0x21#8 (.disarming .sweep))

/-- DISARM in UNDOING (R85, R89, R99): with a slot in progress the undo will end at its boundary; between slots it
ends at once with ABORTED and UNDO_END and goes on into DISARMING. So it does in an undo that R69 has begun,
where R90 would have it answered BUSY: the model's choice (log 26). -/
def Sys2Proof.Claims.DisarmInUndoing : Prop :=
  ∀ (s : State) (crc : Byte) (u : UndoWork), Taken (.disarm crc) s → s.engine.mode = .undoing u →
    u.disarm = false →
    let x := frameBegun s
    let inProgress := u.step ≠ .header [] ∨ s.port.busy.map PortBusy.who = some .engine
    (inProgress → exec (.disarm crc) s = .next (replied 0x21#8 .accepted []
      { x with engine := { s.engine with mode := .undoing { u with disarm := true } } })) ∧
    (¬ inProgress →
      let ended := raise .undoEnd { x with engine := { s.engine with undoOutcome := .aborted } }
      exec (.disarm crc) s = .next (settle (replied 0x21#8 .accepted []
        (resolveHeld { ended with engine := { ended.engine with mode := .disarming .sweep } }))))

/-- R89, R93, R99: COMMIT and DISARM in the resting states, and DISARM in UNDOING. -/
def Obligations.CommitAndDisarm : Prop :=
  Claims.CommitAndDisarmTaken ∧ Claims.DisarmInUndoing

/-- SET_AREA in OFF (R1, R150): RANGE for a base above 1023, a slot count other than 0 and 16 to 8192, or an
area that does not fit; otherwise the base and S, and the region block's copy, change together and a waiting
forward is classified afresh, where the values given are those in force too (the model's choice, log 28). -/
def Sys2Proof.Claims.SetAreaTaken : Prop :=
  ∀ (s : State) (b n : Half) (crc : Byte), Taken (.setArea b n crc) s → s.engine.mode = .off →
    let passes := b.toNat ≤ 1023 ∧ (n.toNat = 0 ∨ (16 ≤ n.toNat ∧ n.toNat ≤ 8192 ∧
      b.toNat * 1024 + 128 + 44 * n.toNat ≤ 1048576))
    (¬ passes → exec (.setArea b n crc) s = .next (replied 0x12#8 .range [] (frameBegun s))) ∧
    (passes → exec (.setArea b n crc) s = .next (settle (replied 0x12#8 .ok []
      (reclassifyWaiting { frameBegun s with
        engine := { s.engine with base := b.toNat, slots := n.toNat }
        regions := { s.regions with areaBase := b.toNat, areaSlots := n.toNat } }))))

/-- WRITE_REGION in OFF, and in ACTIVE with fill 0 (R55, R145, R146, R147): RANGE for an index above 7, an
entry that fails the range tests, and in ACTIVE a JOURNAL entry over the area; otherwise the entry is
written, answered OK in OFF, and in ACTIVE ACCEPTED with the head write of RECORDING begun. -/
def Sys2Proof.Claims.WriteRegionTaken : Prop :=
  ∀ (s : State) (index mode : Byte) (b n : Half) (crc : Byte),
    Taken (.writeRegion index mode b n crc) s →
    s.engine.mode = .off ∨ (s.engine.mode = .active ∧ s.engine.fill = 0) →
    let u := frameBegun s
    let done := exec (.writeRegion index mode b n crc) s
    let overlaps := s.engine.mode = .active ∧ mode.toNat = 1 ∧
      overlapsArea s.regions.areaBase s.regions.areaSlots
        { mode := .journal, base := b.toNat, length := n.toNat } = true
    (8 ≤ index.toNat ∨ regionOf mode.toNat b.toNat n.toNat = none ∨ overlaps →
      done = .next (replied 0x10#8 .range [] u)) ∧
    (∀ (i : Fin 8) (r : Region), index.toNat = i.val → regionOf mode.toNat b.toNat n.toNat = some r →
      ¬ overlaps →
      let written : State := { u with regions := { s.regions with
        entries := s.regions.entries.set i.val r } }
      (s.engine.mode = .off →
        done = .next (settle (replied 0x10#8 .ok [] (reclassifyWaiting written)))) ∧
      (s.engine.mode = .active →
        done = .next (settle (replied 0x10#8 .accepted [] (reclassifyWaiting { written with
          engine := { s.engine with
            mode := .recording (newHeadWrite 1#16 s.engine.epoch written) } })))))

/-- R147, R150: SET_AREA and WRITE_REGION. -/
def Obligations.SetAreaAndWriteRegion : Prop :=
  Claims.SetAreaTaken ∧ Claims.WriteRegionTaken

/-! ## Runs -/

/-- R3, R16, R24, R26, R47 to R49, R136: a journaled write whose granule is not yet saved at the present depth, on
an idle port with no request pending, from its arrival through the 39 accesses of its save to the completion
of its forward. Slot fill then holds the granule as it stood, valid under the current epoch; the write's bytes
are stored; every other byte stands; fill has risen by one; the granule's level is depth; and the engine rests
in ACTIVE with the access answered completed. No cause is latched but JOURNAL_HIGH, where its condition then holds
(R157), and no other part of the state changes. -/
def Obligations.JournaledWriteRun : Prop :=
  ∀ (s : State) (addr : HalfAddr) (lower upper : Bool) (data : Half) (rest : List Instr),
    s.pending = .hostAccessArrive addr .write lower upper data
      :: (List.replicate 39 .engineAccessComplete ++ .forwardComplete :: rest) →
    Ready s → (lower || upper) = true → PortEmpty s → MemoryForm s → BlockLaws s →
    s.engine.markPending = false → s.engine.undoPending = false →
    classify s addr .write = .lookup →
    let g := addr.toNat / 16
    let level := TouchMap.level s.touch g
    let depth := s.engine.stack.length
    let k := s.engine.fill
    let slot := s.engine.base * 1024 + 128 + 44 * k
    level ≠ depth → k < s.engine.slots → granuleMeetsArea s.engine.base s.engine.slots g = false →
    let prior := if level < depth then level else depth - 1
    let old := (List.range 16).map fun j => readHalf s.memory (BitVec.ofNat 19 (g * 16 + j))
    let header := [0x3C01#16, s.engine.epoch, BitVec.ofNat 16 k, BitVec.ofNat 16 g, BitVec.ofNat 16 prior,
      saveCheck s.engine.epoch (BitVec.ofNat 16 k) (BitVec.ofNat 16 g) (BitVec.ofNat 16 prior) old]
    ∃ t, Host.Core.run core 41 s = .next t ∧
      t = { s with
        pending := rest
        engine := { s.engine with fill := k + 1 }
        touch := TouchMap.set s.touch g depth
        host := { s.host with cycle := true, rdy := true, nBerr := true, dout := none }
        port := { s.port with last := .forward }
        causes := CauseUnit.follow { s.causes with latches := s.causes.latches ||| heldLatches t }
        memory := t.memory } ∧
      (∀ i < 22, readHalf t.memory (BitVec.ofNat 19 (slot / 2 + i)) = (header ++ old).getD i 0#16) ∧
      (∀ a : Nat, a < slot ∨ slot + 44 ≤ a → Memory.read t.memory a
        = if storesTo { addr := addr, data := some data, lanes := { lower := lower, upper := upper } } a then
            (if a % 2 = 0 then lowByte data else highByte data)
          else Memory.read s.memory a)

/-- R75 to R78, R81: an UNDO with KEEP in ACTIVE of one valid SAVE above the top checkpoint, on an idle port with
no access and no request pending, from its frame through the 39 accesses. The granule then holds the slot's
data again and its level is the prior level; the slot's kind is VOID; every other byte stands; fill has come
down to the top checkpoint; the result is NORMAL with count 1; and the engine rests in ACTIVE. UNDO_END is
latched, and JOURNAL_HIGH where its condition held at the entry (R157); the frame is answered ACCEPTED; and no other
part of the state changes. -/
def Obligations.UndoRun : Prop :=
  ∀ (s : State) (crc : Byte) (rest : List Instr),
    s.pending = .undo 0x00#8 crc :: (List.replicate 39 .engineAccessComplete ++ rest) →
    Taken (.undo 0x00#8 crc) s → s.engine.mode = .active → s.host.access = none → PortEmpty s →
    MemoryForm s → BlockLaws s → StackLaws s →
    s.engine.markPending = false → s.engine.undoPending = false →
    let k := s.engine.topPosition
    let slot := s.engine.base * 1024 + 128 + 44 * k
    let field := fun i : Nat => readHalf s.memory (BitVec.ofNat 19 (slot / 2 + i))
    let data := (List.range 16).map fun j => field (6 + j)
    let g := (field 3).toNat
    s.engine.fill = k + 1 →
    field 0 = 0x3C01#16 → field 1 = s.engine.epoch → (field 2).toNat = k →
    field 5 = saveCheck (field 1) (field 2) (field 3) (field 4) data →
    highByte (field 4) = 0#8 → (lowByte (field 4)).toNat ≤ 3 → g ≤ 32767 →
    granuleMeetsArea s.engine.base s.engine.slots g = false →
    ∃ t, Host.Core.run core 40 s = .next t ∧
      t = { s with
        pending := rest
        engine := { s.engine with fill := k, undoCount := 1, undoOutcome := .normal }
        touch := TouchMap.set s.touch g (lowByte (field 4)).toNat
        port := { s.port with last := .engine }
        causes := CauseUnit.follow { s.causes with
          latches := s.causes.latches ||| heldLatches s ||| 1#16 <<< 9 }
        link := (replied 0x24#8 .accepted [] (frameBegun s)).link
        memory := t.memory } ∧
      ∀ a : Nat, Memory.read t.memory a
        = if 32 * g ≤ a ∧ a < 32 * g + 32 then Memory.read s.memory (slot + 12 + (a - 32 * g))
          else if a = slot ∨ a = slot + 1 then 0x00#8
          else Memory.read s.memory a
end

