-- ==== Sys2Proof/Laws/Bytes.lean ====
section
/-! SUPPORT. The bytes of a halfword and back. -/

namespace Sys2Proof

-- One declaration at a time: the compile of the package as one text is bounded in threads.
set_option Elab.async false

@[simp] theorem joinHalf_bytes (h : Half) : joinHalf (highByte h) (lowByte h) = h := by
  apply BitVec.eq_of_getLsbD_eq
  intro i hi
  simp only [joinHalf, highByte, lowByte, BitVec.getLsbD_append, BitVec.getLsbD_extractLsb']
  by_cases h8 : i < 8
  · simp [h8]
  · simp [h8, show i - 8 < 8 by omega, show 8 + (i - 8) = i by omega]

@[simp] theorem highByte_joinHalf (a b : Byte) : highByte (joinHalf a b) = a := by
  apply BitVec.eq_of_getLsbD_eq
  intro i hi
  simp only [joinHalf, highByte, BitVec.getLsbD_extractLsb', BitVec.getLsbD_append]
  simp [hi]

@[simp] theorem lowByte_joinHalf (a b : Byte) : lowByte (joinHalf a b) = b := by
  apply BitVec.eq_of_getLsbD_eq
  intro i hi
  simp only [joinHalf, lowByte, BitVec.getLsbD_extractLsb', BitVec.getLsbD_append]
  simp [hi]

/-- The high byte as a number. -/
theorem highByte_toNat (h : Half) : (highByte h).toNat = h.toNat / 256 := by
  have := h.isLt
  simp [highByte, Nat.shiftRight_eq_div_pow]
  omega

/-- The low byte as a number. -/
theorem lowByte_toNat (h : Half) : (lowByte h).toNat = h.toNat % 256 := by
  simp [lowByte]

namespace Machine

/-- The number of a two-byte field. -/
theorem half_toNat (n : Nat) (h : n < 65536) : (half n).toNat = n := by
  simp [half]
  omega

end Machine

end Sys2Proof
end

