-- ==== Sys2Proof/Laws/Memory.lean ====
section
/-! SUPPORT. The laws of the sparse tables: what a read finds after a write, and that every operation over
memory and touch map keeps the canonical form. -/

namespace Sys2Proof.Machine

-- One declaration at a time: the compile of the package as one text is bounded in threads.
set_option Elab.async false

/-! ## Sparse tables -/

/-- A key below every listed key is not listed. -/
theorem sparseRead_of_lt {α : Type} (d : α) (m : List (Nat × α)) (a : Nat)
    (h : ∀ c ∈ m, a < c.1) : sparseRead d m a = d := by
  induction m with
  | nil => rfl
  | cons c m ih =>
    have h1 := h c (by simp)
    rw [sparseRead, if_neg (by omega)]
    exact ih fun e he => h e (by simp [he])

/-- The keys of a written list: the old ones and the one written. -/
theorem key_of_mem_sparseWrite {α : Type} [DecidableEq α] (d : α) (m : List (Nat × α)) (a : Nat) (v : α)
    (e : Nat × α) (h : e ∈ sparseWrite d m a v) : e ∈ m ∨ (e = (a, v) ∧ v ≠ d) := by
  induction m with
  | nil =>
    unfold sparseWrite at h
    split at h <;> simp_all
  | cons c m ih =>
    unfold sparseWrite at h
    split at h
    · split at h
      · exact .inl h
      · rcases List.mem_cons.1 h with rfl | h
        · exact .inr ⟨rfl, ‹_›⟩
        · exact .inl h
    · split at h
      · split at h
        · exact .inl (List.mem_cons_of_mem _ h)
        · rcases List.mem_cons.1 h with rfl | h
          · exact .inr ⟨rfl, ‹_›⟩
          · exact .inl (List.mem_cons_of_mem _ h)
      · rcases List.mem_cons.1 h with rfl | h
        · exact .inl (by simp)
        · rcases ih h with h | h
          · exact .inl (List.mem_cons_of_mem _ h)
          · exact .inr h

/-- A write keeps the keys strictly rising. -/
theorem sparseWrite_pairwise {α : Type} [DecidableEq α] (d : α) (m : List (Nat × α)) (a : Nat) (v : α)
    (h : m.Pairwise fun c e => c.1 < e.1) :
    (sparseWrite d m a v).Pairwise fun c e => c.1 < e.1 := by
  induction m with
  | nil => unfold sparseWrite; split <;> simp
  | cons c m ih =>
    have h1 : ∀ e ∈ m, c.1 < e.1 := fun e he => List.rel_of_pairwise_cons h he
    have h2 := h.of_cons
    unfold sparseWrite
    split
    · split
      · exact h
      · refine List.Pairwise.cons (fun e he => ?_) h
        rcases List.mem_cons.1 he with rfl | he
        · assumption
        · have := h1 e he
          simp only at *
          omega
    · split
      · split
        · exact h2
        · refine List.Pairwise.cons (fun e he => ?_) h2
          have := h1 e he
          simp only at *
          omega
      · refine List.Pairwise.cons (fun e he => ?_) (ih h2)
        rcases key_of_mem_sparseWrite d m a v e he with he | ⟨rfl, _⟩
        · exact h1 e he
        · simp only at *
          omega

/-- A write of a key in range keeps the canonical form. -/
theorem sparseWf_write {α : Type} [DecidableEq α] (d : α) (n : Nat) (m : List (Nat × α)) (a : Nat) (v : α)
    (h : sparseWf d n m) (ha : a < n) : sparseWf d n (sparseWrite d m a v) := by
  refine ⟨sparseWrite_pairwise d m a v h.1, fun e he => ?_⟩
  rcases key_of_mem_sparseWrite d m a v e he with he | ⟨rfl, hv⟩
  · exact h.2 e he
  · exact ⟨ha, hv⟩

/-- A read after a write finds the value written at its key and the old value elsewhere. -/
theorem sparseRead_write {α : Type} [DecidableEq α] (d : α) (m : List (Nat × α)) (a b : Nat) (v : α)
    (h : m.Pairwise fun c e => c.1 < e.1) :
    sparseRead d (sparseWrite d m a v) b = if b = a then v else sparseRead d m b := by
  induction m with
  | nil => by_cases hv : v = d <;> simp [sparseWrite, sparseRead, hv]
  | cons c m ih =>
    obtain ⟨k, w⟩ := c
    have h1 : ∀ e ∈ m, k < e.1 := fun e he => List.rel_of_pairwise_cons h he
    have h2 := h.of_cons
    have low : ∀ x, x ≤ k → sparseRead d m x = d := fun x hx =>
      sparseRead_of_lt d m x fun e he => by have := h1 e he; omega
    unfold sparseWrite
    split
    · split
      · by_cases hb : b = a
        · subst hb
          rw [if_pos rfl, sparseRead, if_neg (by omega), low b (by omega)]
          exact Eq.symm ‹v = d›
        · rw [if_neg hb]
      · rw [sparseRead]
    · split
      · subst a
        by_cases hb : b = k
        · subst hb
          split
          · rw [if_pos rfl, low b (by omega)]
            exact Eq.symm ‹v = d›
          · rw [sparseRead, if_pos rfl, if_pos rfl]
        · split <;> simp [sparseRead, hb]
      · by_cases hb : b = k
        · subst hb
          simp only [sparseRead, if_true]
          rw [if_neg (by omega)]
        · simp only [sparseRead, hb, if_false]
          exact ih h2

/-! ## Memory -/

/-- One byte written in range keeps the memory's form. -/
theorem Memory.wf_write (m : Memory) (a : Nat) (v : Byte) (h : Memory.wf m) (ha : a < memorySize) :
    Memory.wf (Memory.write m a v) := sparseWf_write _ _ m a v h ha

/-- A byte read after a byte written. -/
theorem Memory.read_write (m : Memory) (a b : Nat) (v : Byte) (h : Memory.wf m) :
    Memory.read (Memory.write m a v) b = if b = a then v else Memory.read m b :=
  sparseRead_write _ m a b v h.1

/-- Both bytes of a halfword address lie in the address space. -/
theorem halfAddr_lt (a : HalfAddr) : 2 * a.toNat + 1 < memorySize := by
  have := a.isLt
  unfold memorySize
  omega

/-- A halfword written keeps the memory's form. -/
theorem wf_writeHalf (m : Memory) (a : HalfAddr) (lanes : Lanes) (v : Half) (h : Memory.wf m) :
    Memory.wf (writeHalf m a lanes v) := by
  have := halfAddr_lt a
  unfold writeHalf
  dsimp only
  split <;> split <;>
    first
    | exact h
    | exact Memory.wf_write _ _ _ h (by omega)
    | exact Memory.wf_write _ _ _ (Memory.wf_write _ _ _ h (by omega)) (by omega)

/-- A byte read after a halfword written: the bytes of the enabled lanes hold its bytes, every other byte
stands. -/
theorem read_writeHalf (m : Memory) (a : HalfAddr) (lanes : Lanes) (v : Half) (x : Nat)
    (h : Memory.wf m) :
    Memory.read (writeHalf m a lanes v) x
      = if lanes.upper = true ∧ x = 2 * a.toNat + 1 then highByte v
        else if lanes.lower = true ∧ x = 2 * a.toNat then lowByte v
        else Memory.read m x := by
  have hl : Memory.wf (Memory.write m (2 * a.toNat) (lowByte v)) :=
    Memory.wf_write _ _ _ h (by have := halfAddr_lt a; omega)
  unfold writeHalf
  cases lanes.lower <;> cases lanes.upper <;>
    simp [Memory.read_write _ _ _ _ h, Memory.read_write _ _ _ _ hl]

/-- An access performed at its grant keeps the memory's form. -/
theorem wf_performAccess (m : Memory) (x : MemAccess) (h : Memory.wf m) :
    Memory.wf (performAccess m x) := by
  unfold performAccess
  cases x.data with
  | none => exact h
  | some v => exact wf_writeHalf m x.addr x.lanes v h

/-- A read performed leaves the memory as it stands. -/
@[simp] theorem performAccess_read (m : Memory) (a : HalfAddr) (l : Lanes) :
    performAccess m { addr := a, data := none, lanes := l } = m := rfl

/-- An access cut short keeps the memory's form. -/
theorem wf_cutAccess (s : State) (h : Memory.wf s.memory) : Memory.wf (cutAccess s).memory := by
  unfold cutAccess
  split
  · exact h
  · split
    · exact h
    · dsimp only
      split
      · exact h
      · exact wf_writeHalf _ _ _ _ h

/-- A grant keeps the memory's form. -/
theorem wf_grant (s : State) (h : Memory.wf s.memory) : Memory.wf (grant s).memory := by
  unfold grant
  split
  · exact h
  · split
    · exact h
    · split
      · exact h
      · exact wf_performAccess _ _ h

/-- The close of an event keeps the memory's form. -/
theorem wf_settle (s : State) (h : Memory.wf s.memory) : Memory.wf (settle s).memory :=
  wf_grant _ h

/-- The memory after reset is in its canonical form. -/
theorem wf_reset_memory : Memory.wf State.reset.memory := ⟨.nil, by simp [State.reset]⟩

/-! ## The touch map -/

/-- A level set in range keeps the touch map's form. -/
theorem TouchMap.wf_set (t : TouchMap) (g level : Nat) (h : TouchMap.wf t) (hg : g < 32768) :
    TouchMap.wf (TouchMap.set t g level) := sparseWf_write _ _ t g level h hg

/-- A level read after a level set. -/
theorem TouchMap.level_set (t : TouchMap) (g level x : Nat) (h : TouchMap.wf t) :
    TouchMap.level (TouchMap.set t g level) x = if x = g then level else TouchMap.level t x :=
  sparseRead_write _ t g x level h.1

/-- A set level is one of the old ones or the new one. -/
theorem TouchMap.mem_set (t : TouchMap) (g level : Nat) (e : Nat × Nat)
    (h : e ∈ TouchMap.set t g level) : e ∈ t ∨ e = (g, level) := by
  rcases key_of_mem_sparseWrite 0 t g level e h with h | ⟨h, _⟩
  · exact .inl h
  · exact .inr h

/-- What the relabel sweep does to one entry (R30). -/
theorem relabel_entry (d : Nat) (x y : Nat × Nat) :
    (let level := if x.2 = d then d - 1 else x.2
     if level = 0 then none else some (x.1, level)) = some y ↔
      y.1 = x.1 ∧ y.2 = (if x.2 = d then d - 1 else x.2) ∧ y.2 ≠ 0 := by
  obtain ⟨g, k⟩ := y
  dsimp only
  generalize (if x.2 = d then d - 1 else x.2) = l
  by_cases hl : l = 0
  · simp [hl]
  · simp [hl]
    grind

/-- What the relabel sweep keeps of the map (R30). -/
theorem TouchMap.mem_relabel (t : TouchMap) (d : Nat) (e : Nat × Nat) :
    e ∈ TouchMap.relabel t d ↔
      ∃ x ∈ t, e.1 = x.1 ∧ e.2 = (if x.2 = d then d - 1 else x.2) ∧ e.2 ≠ 0 := by
  unfold TouchMap.relabel
  rw [List.mem_filterMap]
  exact exists_congr fun x => and_congr_right fun _ => relabel_entry d x e

/-- The relabel sweep keeps the touch map's form. -/
theorem TouchMap.wf_relabel (t : TouchMap) (d : Nat) (h : TouchMap.wf t) :
    TouchMap.wf (TouchMap.relabel t d) := by
  constructor
  · unfold TouchMap.relabel
    rw [List.pairwise_filterMap]
    refine h.1.imp fun {a b} hab c hc e he => ?_
    rw [((relabel_entry d a c).1 hc).1, ((relabel_entry d b e).1 he).1]
    exact hab
  · intro e he
    obtain ⟨x, hx, h1, _, h0⟩ := (TouchMap.mem_relabel t d e).1 he
    exact ⟨h1 ▸ (h.2 _ hx).1, h0⟩

/-- The relabel sweep of a map with a first entry. -/
theorem TouchMap.relabel_cons (k l : Nat) (t : TouchMap) (d : Nat) :
    TouchMap.relabel ((k, l) :: t) d
      = let level := if l = d then d - 1 else l
        if level = 0 then TouchMap.relabel t d else (k, level) :: TouchMap.relabel t d := by
  simp only [TouchMap.relabel, List.filterMap_cons]
  generalize (if l = d then d - 1 else l) = n
  by_cases hn : n = 0 <;> simp [hn]

/-- R30: after the relabel sweep each level equal to d is d − 1 and every other stands. -/
theorem TouchMap.level_relabel (t : TouchMap) (d : Nat) (h : TouchMap.wf t) (hd : d ≠ 0) (g : Nat) :
    TouchMap.level (TouchMap.relabel t d) g
      = if TouchMap.level t g = d then d - 1 else TouchMap.level t g := by
  obtain ⟨h1, h2⟩ := h
  clear h2
  induction t with
  | nil => simp [TouchMap.relabel, TouchMap.level, sparseRead, Ne.symm hd]
  | cons c t ih =>
    obtain ⟨k, l⟩ := c
    have ih := ih h1.of_cons
    have hk : ∀ e ∈ t, k < e.1 := fun e he => List.rel_of_pairwise_cons h1 he
    have low : sparseRead 0 (TouchMap.relabel t d) k = 0 :=
      sparseRead_of_lt 0 _ k fun e he => by
        obtain ⟨x, hx, hx1, _⟩ := (TouchMap.mem_relabel t d e).1 he
        rw [hx1]
        exact hk x hx
    simp only [TouchMap.level] at ih ⊢
    rw [TouchMap.relabel_cons]
    dsimp only
    by_cases hg : g = k
    · subst hg
      simp only [sparseRead, if_true]
      generalize (if l = d then d - 1 else l) = n
      by_cases hn : n = 0 <;> simp [hn, low, sparseRead]
    · have skip : sparseRead 0 ((k, l) :: t) g = sparseRead 0 t g := by simp [sparseRead, hg]
      simp only [skip]
      refine Eq.trans ?_ ih
      generalize (if l = d then d - 1 else l) = n
      by_cases hn : n = 0 <;> simp [hn, hg, sparseRead]

/-- The empty touch map holds level 0 everywhere. -/
@[simp] theorem TouchMap.level_nil (g : Nat) : TouchMap.level [] g = 0 := rfl

end Sys2Proof.Machine
end

