-- ==== Sys2Proof/Laws/State.lean ====
section
/-! SUPPORT. One lemma per field of State for each update, true by rfl: no later proof unfolds an update. -/

namespace Sys2Proof.Machine

-- One declaration at a time: the compile of the package as one text is bounded in threads.
set_option Elab.async false

variable (s : State)

@[simp] theorem setMode_power (m : Mode) : (setMode m s).power = s.power := rfl
@[simp] theorem setMode_engine (m : Mode) : (setMode m s).engine = { s.engine with mode := m } := rfl
@[simp] theorem setMode_touch (m : Mode) : (setMode m s).touch = s.touch := rfl
@[simp] theorem setMode_regions (m : Mode) : (setMode m s).regions = s.regions := rfl
@[simp] theorem setMode_host (m : Mode) : (setMode m s).host = s.host := rfl
@[simp] theorem setMode_port (m : Mode) : (setMode m s).port = s.port := rfl
@[simp] theorem setMode_causes (m : Mode) : (setMode m s).causes = s.causes := rfl
@[simp] theorem setMode_records (m : Mode) : (setMode m s).records = s.records := rfl
@[simp] theorem setMode_link (m : Mode) : (setMode m s).link = s.link := rfl
@[simp] theorem setMode_memory (m : Mode) : (setMode m s).memory = s.memory := rfl
@[simp] theorem setMode_freeCount (m : Mode) : (setMode m s).freeCount = s.freeCount := rfl
@[simp] theorem setMode_pending (m : Mode) : (setMode m s).pending = s.pending := rfl

@[simp] theorem setFill_power (n : Nat) : (setFill n s).power = s.power := rfl
@[simp] theorem setFill_engine (n : Nat) : (setFill n s).engine = { s.engine with fill := n } := rfl
@[simp] theorem setFill_touch (n : Nat) : (setFill n s).touch = s.touch := rfl
@[simp] theorem setFill_regions (n : Nat) : (setFill n s).regions = s.regions := rfl
@[simp] theorem setFill_host (n : Nat) : (setFill n s).host = s.host := rfl
@[simp] theorem setFill_port (n : Nat) : (setFill n s).port = s.port := rfl
@[simp] theorem setFill_causes (n : Nat) : (setFill n s).causes = s.causes := rfl
@[simp] theorem setFill_records (n : Nat) : (setFill n s).records = s.records := rfl
@[simp] theorem setFill_link (n : Nat) : (setFill n s).link = s.link := rfl
@[simp] theorem setFill_memory (n : Nat) : (setFill n s).memory = s.memory := rfl
@[simp] theorem setFill_freeCount (n : Nat) : (setFill n s).freeCount = s.freeCount := rfl
@[simp] theorem setFill_pending (n : Nat) : (setFill n s).pending = s.pending := rfl

@[simp] theorem setStack_power (l : List Checkpoint) : (setStack l s).power = s.power := rfl
@[simp] theorem setStack_engine (l : List Checkpoint) : (setStack l s).engine = { s.engine with stack := l } := rfl
@[simp] theorem setStack_touch (l : List Checkpoint) : (setStack l s).touch = s.touch := rfl
@[simp] theorem setStack_regions (l : List Checkpoint) : (setStack l s).regions = s.regions := rfl
@[simp] theorem setStack_host (l : List Checkpoint) : (setStack l s).host = s.host := rfl
@[simp] theorem setStack_port (l : List Checkpoint) : (setStack l s).port = s.port := rfl
@[simp] theorem setStack_causes (l : List Checkpoint) : (setStack l s).causes = s.causes := rfl
@[simp] theorem setStack_records (l : List Checkpoint) : (setStack l s).records = s.records := rfl
@[simp] theorem setStack_link (l : List Checkpoint) : (setStack l s).link = s.link := rfl
@[simp] theorem setStack_memory (l : List Checkpoint) : (setStack l s).memory = s.memory := rfl
@[simp] theorem setStack_freeCount (l : List Checkpoint) : (setStack l s).freeCount = s.freeCount := rfl
@[simp] theorem setStack_pending (l : List Checkpoint) : (setStack l s).pending = s.pending := rfl

@[simp] theorem popStack_power : (popStack s).power = s.power := rfl
@[simp] theorem popStack_engine : (popStack s).engine = { s.engine with stack := s.engine.stack.dropLast } := rfl
@[simp] theorem popStack_touch : (popStack s).touch = s.touch := rfl
@[simp] theorem popStack_regions : (popStack s).regions = s.regions := rfl
@[simp] theorem popStack_host : (popStack s).host = s.host := rfl
@[simp] theorem popStack_port : (popStack s).port = s.port := rfl
@[simp] theorem popStack_causes : (popStack s).causes = s.causes := rfl
@[simp] theorem popStack_records : (popStack s).records = s.records := rfl
@[simp] theorem popStack_link : (popStack s).link = s.link := rfl
@[simp] theorem popStack_memory : (popStack s).memory = s.memory := rfl
@[simp] theorem popStack_freeCount : (popStack s).freeCount = s.freeCount := rfl
@[simp] theorem popStack_pending : (popStack s).pending = s.pending := rfl

@[simp] theorem pushStack_power (p : Nat) (l : Half) : (pushStack p l s).power = s.power := rfl
@[simp] theorem pushStack_engine (p : Nat) (l : Half) : (pushStack p l s).engine = { s.engine with stack := s.engine.stack ++
      [{ position := p, label := l, number := s.engine.depth + 1 }] } := rfl
@[simp] theorem pushStack_touch (p : Nat) (l : Half) : (pushStack p l s).touch = s.touch := rfl
@[simp] theorem pushStack_regions (p : Nat) (l : Half) : (pushStack p l s).regions = s.regions := rfl
@[simp] theorem pushStack_host (p : Nat) (l : Half) : (pushStack p l s).host = s.host := rfl
@[simp] theorem pushStack_port (p : Nat) (l : Half) : (pushStack p l s).port = s.port := rfl
@[simp] theorem pushStack_causes (p : Nat) (l : Half) : (pushStack p l s).causes = s.causes := rfl
@[simp] theorem pushStack_records (p : Nat) (l : Half) : (pushStack p l s).records = s.records := rfl
@[simp] theorem pushStack_link (p : Nat) (l : Half) : (pushStack p l s).link = s.link := rfl
@[simp] theorem pushStack_memory (p : Nat) (l : Half) : (pushStack p l s).memory = s.memory := rfl
@[simp] theorem pushStack_freeCount (p : Nat) (l : Half) : (pushStack p l s).freeCount = s.freeCount := rfl
@[simp] theorem pushStack_pending (p : Nat) (l : Half) : (pushStack p l s).pending = s.pending := rfl

@[simp] theorem emptyJournal_power : (emptyJournal s).power = s.power := rfl
@[simp] theorem emptyJournal_engine : (emptyJournal s).engine = { s.engine with fill := 0, stack := [] } := rfl
@[simp] theorem emptyJournal_touch : (emptyJournal s).touch = s.touch := rfl
@[simp] theorem emptyJournal_regions : (emptyJournal s).regions = s.regions := rfl
@[simp] theorem emptyJournal_host : (emptyJournal s).host = s.host := rfl
@[simp] theorem emptyJournal_port : (emptyJournal s).port = s.port := rfl
@[simp] theorem emptyJournal_causes : (emptyJournal s).causes = s.causes := rfl
@[simp] theorem emptyJournal_records : (emptyJournal s).records = s.records := rfl
@[simp] theorem emptyJournal_link : (emptyJournal s).link = s.link := rfl
@[simp] theorem emptyJournal_memory : (emptyJournal s).memory = s.memory := rfl
@[simp] theorem emptyJournal_freeCount : (emptyJournal s).freeCount = s.freeCount := rfl
@[simp] theorem emptyJournal_pending : (emptyJournal s).pending = s.pending := rfl

@[simp] theorem baseAlone_power : (baseAlone s).power = s.power := rfl
@[simp] theorem baseAlone_engine : (baseAlone s).engine = { s.engine with fill := 0, stack := [baseCheckpoint] } := rfl
@[simp] theorem baseAlone_touch : (baseAlone s).touch = s.touch := rfl
@[simp] theorem baseAlone_regions : (baseAlone s).regions = s.regions := rfl
@[simp] theorem baseAlone_host : (baseAlone s).host = s.host := rfl
@[simp] theorem baseAlone_port : (baseAlone s).port = s.port := rfl
@[simp] theorem baseAlone_causes : (baseAlone s).causes = s.causes := rfl
@[simp] theorem baseAlone_records : (baseAlone s).records = s.records := rfl
@[simp] theorem baseAlone_link : (baseAlone s).link = s.link := rfl
@[simp] theorem baseAlone_memory : (baseAlone s).memory = s.memory := rfl
@[simp] theorem baseAlone_freeCount : (baseAlone s).freeCount = s.freeCount := rfl
@[simp] theorem baseAlone_pending : (baseAlone s).pending = s.pending := rfl

@[simp] theorem setLevel_power (g level : Nat) : (setLevel g level s).power = s.power := rfl
@[simp] theorem setLevel_engine (g level : Nat) : (setLevel g level s).engine = s.engine := rfl
@[simp] theorem setLevel_touch (g level : Nat) : (setLevel g level s).touch = TouchMap.set s.touch g level := rfl
@[simp] theorem setLevel_regions (g level : Nat) : (setLevel g level s).regions = s.regions := rfl
@[simp] theorem setLevel_host (g level : Nat) : (setLevel g level s).host = s.host := rfl
@[simp] theorem setLevel_port (g level : Nat) : (setLevel g level s).port = s.port := rfl
@[simp] theorem setLevel_causes (g level : Nat) : (setLevel g level s).causes = s.causes := rfl
@[simp] theorem setLevel_records (g level : Nat) : (setLevel g level s).records = s.records := rfl
@[simp] theorem setLevel_link (g level : Nat) : (setLevel g level s).link = s.link := rfl
@[simp] theorem setLevel_memory (g level : Nat) : (setLevel g level s).memory = s.memory := rfl
@[simp] theorem setLevel_freeCount (g level : Nat) : (setLevel g level s).freeCount = s.freeCount := rfl
@[simp] theorem setLevel_pending (g level : Nat) : (setLevel g level s).pending = s.pending := rfl

@[simp] theorem setAreaValues_power (b n : Nat) : (setAreaValues b n s).power = s.power := rfl
@[simp] theorem setAreaValues_engine (b n : Nat) : (setAreaValues b n s).engine = { s.engine with base := b, slots := n } := rfl
@[simp] theorem setAreaValues_touch (b n : Nat) : (setAreaValues b n s).touch = s.touch := rfl
@[simp] theorem setAreaValues_regions (b n : Nat) : (setAreaValues b n s).regions = { s.regions with areaBase := b, areaSlots := n } := rfl
@[simp] theorem setAreaValues_host (b n : Nat) : (setAreaValues b n s).host = s.host := rfl
@[simp] theorem setAreaValues_port (b n : Nat) : (setAreaValues b n s).port = s.port := rfl
@[simp] theorem setAreaValues_causes (b n : Nat) : (setAreaValues b n s).causes = s.causes := rfl
@[simp] theorem setAreaValues_records (b n : Nat) : (setAreaValues b n s).records = s.records := rfl
@[simp] theorem setAreaValues_link (b n : Nat) : (setAreaValues b n s).link = s.link := rfl
@[simp] theorem setAreaValues_memory (b n : Nat) : (setAreaValues b n s).memory = s.memory := rfl
@[simp] theorem setAreaValues_freeCount (b n : Nat) : (setAreaValues b n s).freeCount = s.freeCount := rfl
@[simp] theorem setAreaValues_pending (b n : Nat) : (setAreaValues b n s).pending = s.pending := rfl

@[simp] theorem setMarkPending_power (b : Bool) : (setMarkPending b s).power = s.power := rfl
@[simp] theorem setMarkPending_engine (b : Bool) : (setMarkPending b s).engine = { s.engine with markPending := b } := rfl
@[simp] theorem setMarkPending_touch (b : Bool) : (setMarkPending b s).touch = s.touch := rfl
@[simp] theorem setMarkPending_regions (b : Bool) : (setMarkPending b s).regions = s.regions := rfl
@[simp] theorem setMarkPending_host (b : Bool) : (setMarkPending b s).host = s.host := rfl
@[simp] theorem setMarkPending_port (b : Bool) : (setMarkPending b s).port = s.port := rfl
@[simp] theorem setMarkPending_causes (b : Bool) : (setMarkPending b s).causes = s.causes := rfl
@[simp] theorem setMarkPending_records (b : Bool) : (setMarkPending b s).records = s.records := rfl
@[simp] theorem setMarkPending_link (b : Bool) : (setMarkPending b s).link = s.link := rfl
@[simp] theorem setMarkPending_memory (b : Bool) : (setMarkPending b s).memory = s.memory := rfl
@[simp] theorem setMarkPending_freeCount (b : Bool) : (setMarkPending b s).freeCount = s.freeCount := rfl
@[simp] theorem setMarkPending_pending (b : Bool) : (setMarkPending b s).pending = s.pending := rfl

@[simp] theorem setUndoPending_power (b : Bool) : (setUndoPending b s).power = s.power := rfl
@[simp] theorem setUndoPending_engine (b : Bool) : (setUndoPending b s).engine = { s.engine with undoPending := b } := rfl
@[simp] theorem setUndoPending_touch (b : Bool) : (setUndoPending b s).touch = s.touch := rfl
@[simp] theorem setUndoPending_regions (b : Bool) : (setUndoPending b s).regions = s.regions := rfl
@[simp] theorem setUndoPending_host (b : Bool) : (setUndoPending b s).host = s.host := rfl
@[simp] theorem setUndoPending_port (b : Bool) : (setUndoPending b s).port = s.port := rfl
@[simp] theorem setUndoPending_causes (b : Bool) : (setUndoPending b s).causes = s.causes := rfl
@[simp] theorem setUndoPending_records (b : Bool) : (setUndoPending b s).records = s.records := rfl
@[simp] theorem setUndoPending_link (b : Bool) : (setUndoPending b s).link = s.link := rfl
@[simp] theorem setUndoPending_memory (b : Bool) : (setUndoPending b s).memory = s.memory := rfl
@[simp] theorem setUndoPending_freeCount (b : Bool) : (setUndoPending b s).freeCount = s.freeCount := rfl
@[simp] theorem setUndoPending_pending (b : Bool) : (setUndoPending b s).pending = s.pending := rfl

@[simp] theorem setEpoch_power (e : Half) : (setEpoch e s).power = s.power := rfl
@[simp] theorem setEpoch_engine (e : Half) : (setEpoch e s).engine = { s.engine with epoch := e } := rfl
@[simp] theorem setEpoch_touch (e : Half) : (setEpoch e s).touch = s.touch := rfl
@[simp] theorem setEpoch_regions (e : Half) : (setEpoch e s).regions = s.regions := rfl
@[simp] theorem setEpoch_host (e : Half) : (setEpoch e s).host = s.host := rfl
@[simp] theorem setEpoch_port (e : Half) : (setEpoch e s).port = s.port := rfl
@[simp] theorem setEpoch_causes (e : Half) : (setEpoch e s).causes = s.causes := rfl
@[simp] theorem setEpoch_records (e : Half) : (setEpoch e s).records = s.records := rfl
@[simp] theorem setEpoch_link (e : Half) : (setEpoch e s).link = s.link := rfl
@[simp] theorem setEpoch_memory (e : Half) : (setEpoch e s).memory = s.memory := rfl
@[simp] theorem setEpoch_freeCount (e : Half) : (setEpoch e s).freeCount = s.freeCount := rfl
@[simp] theorem setEpoch_pending (e : Half) : (setEpoch e s).pending = s.pending := rfl

@[simp] theorem setUndoOutcome_power (o : UndoOutcome) : (setUndoOutcome o s).power = s.power := rfl
@[simp] theorem setUndoOutcome_engine (o : UndoOutcome) : (setUndoOutcome o s).engine = { s.engine with undoOutcome := o } := rfl
@[simp] theorem setUndoOutcome_touch (o : UndoOutcome) : (setUndoOutcome o s).touch = s.touch := rfl
@[simp] theorem setUndoOutcome_regions (o : UndoOutcome) : (setUndoOutcome o s).regions = s.regions := rfl
@[simp] theorem setUndoOutcome_host (o : UndoOutcome) : (setUndoOutcome o s).host = s.host := rfl
@[simp] theorem setUndoOutcome_port (o : UndoOutcome) : (setUndoOutcome o s).port = s.port := rfl
@[simp] theorem setUndoOutcome_causes (o : UndoOutcome) : (setUndoOutcome o s).causes = s.causes := rfl
@[simp] theorem setUndoOutcome_records (o : UndoOutcome) : (setUndoOutcome o s).records = s.records := rfl
@[simp] theorem setUndoOutcome_link (o : UndoOutcome) : (setUndoOutcome o s).link = s.link := rfl
@[simp] theorem setUndoOutcome_memory (o : UndoOutcome) : (setUndoOutcome o s).memory = s.memory := rfl
@[simp] theorem setUndoOutcome_freeCount (o : UndoOutcome) : (setUndoOutcome o s).freeCount = s.freeCount := rfl
@[simp] theorem setUndoOutcome_pending (o : UndoOutcome) : (setUndoOutcome o s).pending = s.pending := rfl

@[simp] theorem setResume_power (o : ResumeOutcome) (r : StopReason) : (setResume o r s).power = s.power := rfl
@[simp] theorem setResume_engine (o : ResumeOutcome) (r : StopReason) : (setResume o r s).engine = { s.engine with resumeOutcome := o, resumeStop := r } := rfl
@[simp] theorem setResume_touch (o : ResumeOutcome) (r : StopReason) : (setResume o r s).touch = s.touch := rfl
@[simp] theorem setResume_regions (o : ResumeOutcome) (r : StopReason) : (setResume o r s).regions = s.regions := rfl
@[simp] theorem setResume_host (o : ResumeOutcome) (r : StopReason) : (setResume o r s).host = s.host := rfl
@[simp] theorem setResume_port (o : ResumeOutcome) (r : StopReason) : (setResume o r s).port = s.port := rfl
@[simp] theorem setResume_causes (o : ResumeOutcome) (r : StopReason) : (setResume o r s).causes = s.causes := rfl
@[simp] theorem setResume_records (o : ResumeOutcome) (r : StopReason) : (setResume o r s).records = s.records := rfl
@[simp] theorem setResume_link (o : ResumeOutcome) (r : StopReason) : (setResume o r s).link = s.link := rfl
@[simp] theorem setResume_memory (o : ResumeOutcome) (r : StopReason) : (setResume o r s).memory = s.memory := rfl
@[simp] theorem setResume_freeCount (o : ResumeOutcome) (r : StopReason) : (setResume o r s).freeCount = s.freeCount := rfl
@[simp] theorem setResume_pending (o : ResumeOutcome) (r : StopReason) : (setResume o r s).pending = s.pending := rfl

@[simp] theorem setMarkLine_power (b : Bool) : (setMarkLine b s).power = s.power := rfl
@[simp] theorem setMarkLine_engine (b : Bool) : (setMarkLine b s).engine = { s.engine with markLine := b } := rfl
@[simp] theorem setMarkLine_touch (b : Bool) : (setMarkLine b s).touch = s.touch := rfl
@[simp] theorem setMarkLine_regions (b : Bool) : (setMarkLine b s).regions = s.regions := rfl
@[simp] theorem setMarkLine_host (b : Bool) : (setMarkLine b s).host = s.host := rfl
@[simp] theorem setMarkLine_port (b : Bool) : (setMarkLine b s).port = s.port := rfl
@[simp] theorem setMarkLine_causes (b : Bool) : (setMarkLine b s).causes = s.causes := rfl
@[simp] theorem setMarkLine_records (b : Bool) : (setMarkLine b s).records = s.records := rfl
@[simp] theorem setMarkLine_link (b : Bool) : (setMarkLine b s).link = s.link := rfl
@[simp] theorem setMarkLine_memory (b : Bool) : (setMarkLine b s).memory = s.memory := rfl
@[simp] theorem setMarkLine_freeCount (b : Bool) : (setMarkLine b s).freeCount = s.freeCount := rfl
@[simp] theorem setMarkLine_pending (b : Bool) : (setMarkLine b s).pending = s.pending := rfl

@[simp] theorem setUndoLine_power (b : Bool) : (setUndoLine b s).power = s.power := rfl
@[simp] theorem setUndoLine_engine (b : Bool) : (setUndoLine b s).engine = { s.engine with undoLine := b } := rfl
@[simp] theorem setUndoLine_touch (b : Bool) : (setUndoLine b s).touch = s.touch := rfl
@[simp] theorem setUndoLine_regions (b : Bool) : (setUndoLine b s).regions = s.regions := rfl
@[simp] theorem setUndoLine_host (b : Bool) : (setUndoLine b s).host = s.host := rfl
@[simp] theorem setUndoLine_port (b : Bool) : (setUndoLine b s).port = s.port := rfl
@[simp] theorem setUndoLine_causes (b : Bool) : (setUndoLine b s).causes = s.causes := rfl
@[simp] theorem setUndoLine_records (b : Bool) : (setUndoLine b s).records = s.records := rfl
@[simp] theorem setUndoLine_link (b : Bool) : (setUndoLine b s).link = s.link := rfl
@[simp] theorem setUndoLine_memory (b : Bool) : (setUndoLine b s).memory = s.memory := rfl
@[simp] theorem setUndoLine_freeCount (b : Bool) : (setUndoLine b s).freeCount = s.freeCount := rfl
@[simp] theorem setUndoLine_pending (b : Bool) : (setUndoLine b s).pending = s.pending := rfl

@[simp] theorem setPolicy_power (p : Policy) : (setPolicy p s).power = s.power := rfl
@[simp] theorem setPolicy_engine (p : Policy) : (setPolicy p s).engine = { s.engine with policy := p } := rfl
@[simp] theorem setPolicy_touch (p : Policy) : (setPolicy p s).touch = s.touch := rfl
@[simp] theorem setPolicy_regions (p : Policy) : (setPolicy p s).regions = s.regions := rfl
@[simp] theorem setPolicy_host (p : Policy) : (setPolicy p s).host = s.host := rfl
@[simp] theorem setPolicy_port (p : Policy) : (setPolicy p s).port = s.port := rfl
@[simp] theorem setPolicy_causes (p : Policy) : (setPolicy p s).causes = s.causes := rfl
@[simp] theorem setPolicy_records (p : Policy) : (setPolicy p s).records = s.records := rfl
@[simp] theorem setPolicy_link (p : Policy) : (setPolicy p s).link = s.link := rfl
@[simp] theorem setPolicy_memory (p : Policy) : (setPolicy p s).memory = s.memory := rfl
@[simp] theorem setPolicy_freeCount (p : Policy) : (setPolicy p s).freeCount = s.freeCount := rfl
@[simp] theorem setPolicy_pending (p : Policy) : (setPolicy p s).pending = s.pending := rfl

@[simp] theorem headWritten_power (w : HeadWrite) : (headWritten w s).power = s.power := rfl
@[simp] theorem headWritten_engine (w : HeadWrite) : (headWritten w s).engine = { s.engine with
      headSequence := s.engine.headSequence + 1, current := some w.copy } := rfl
@[simp] theorem headWritten_touch (w : HeadWrite) : (headWritten w s).touch = s.touch := rfl
@[simp] theorem headWritten_regions (w : HeadWrite) : (headWritten w s).regions = s.regions := rfl
@[simp] theorem headWritten_host (w : HeadWrite) : (headWritten w s).host = s.host := rfl
@[simp] theorem headWritten_port (w : HeadWrite) : (headWritten w s).port = s.port := rfl
@[simp] theorem headWritten_causes (w : HeadWrite) : (headWritten w s).causes = s.causes := rfl
@[simp] theorem headWritten_records (w : HeadWrite) : (headWritten w s).records = s.records := rfl
@[simp] theorem headWritten_link (w : HeadWrite) : (headWritten w s).link = s.link := rfl
@[simp] theorem headWritten_memory (w : HeadWrite) : (headWritten w s).memory = s.memory := rfl
@[simp] theorem headWritten_freeCount (w : HeadWrite) : (headWritten w s).freeCount = s.freeCount := rfl
@[simp] theorem headWritten_pending (w : HeadWrite) : (headWritten w s).pending = s.pending := rfl

@[simp] theorem takeHeadChoice_power (a b : List Half) : (takeHeadChoice a b s).power = s.power := rfl
@[simp] theorem takeHeadChoice_engine (a b : List Half) : (takeHeadChoice a b s).engine = { s.engine with
      headSequence := chosenSequence a b, current := newerCopy a b } := rfl
@[simp] theorem takeHeadChoice_touch (a b : List Half) : (takeHeadChoice a b s).touch = s.touch := rfl
@[simp] theorem takeHeadChoice_regions (a b : List Half) : (takeHeadChoice a b s).regions = s.regions := rfl
@[simp] theorem takeHeadChoice_host (a b : List Half) : (takeHeadChoice a b s).host = s.host := rfl
@[simp] theorem takeHeadChoice_port (a b : List Half) : (takeHeadChoice a b s).port = s.port := rfl
@[simp] theorem takeHeadChoice_causes (a b : List Half) : (takeHeadChoice a b s).causes = s.causes := rfl
@[simp] theorem takeHeadChoice_records (a b : List Half) : (takeHeadChoice a b s).records = s.records := rfl
@[simp] theorem takeHeadChoice_link (a b : List Half) : (takeHeadChoice a b s).link = s.link := rfl
@[simp] theorem takeHeadChoice_memory (a b : List Half) : (takeHeadChoice a b s).memory = s.memory := rfl
@[simp] theorem takeHeadChoice_freeCount (a b : List Half) : (takeHeadChoice a b s).freeCount = s.freeCount := rfl
@[simp] theorem takeHeadChoice_pending (a b : List Half) : (takeHeadChoice a b s).pending = s.pending := rfl

@[simp] theorem enterUndoing_power (d : Bool) : (enterUndoing d s).power = s.power := rfl
@[simp] theorem enterUndoing_engine (d : Bool) : (enterUndoing d s).engine = { s.engine with
      mode := .undoing { target := s.engine.topPosition, drop := d, walkDepth := s.engine.depth,
                         disarm := false, step := .header [] }
      undoCount := 0
      undoOutcome := .none } := rfl
@[simp] theorem enterUndoing_touch (d : Bool) : (enterUndoing d s).touch = s.touch := rfl
@[simp] theorem enterUndoing_regions (d : Bool) : (enterUndoing d s).regions = s.regions := rfl
@[simp] theorem enterUndoing_host (d : Bool) : (enterUndoing d s).host = s.host := rfl
@[simp] theorem enterUndoing_port (d : Bool) : (enterUndoing d s).port = s.port := rfl
@[simp] theorem enterUndoing_causes (d : Bool) : (enterUndoing d s).causes = s.causes := rfl
@[simp] theorem enterUndoing_records (d : Bool) : (enterUndoing d s).records = s.records := rfl
@[simp] theorem enterUndoing_link (d : Bool) : (enterUndoing d s).link = s.link := rfl
@[simp] theorem enterUndoing_memory (d : Bool) : (enterUndoing d s).memory = s.memory := rfl
@[simp] theorem enterUndoing_freeCount (d : Bool) : (enterUndoing d s).freeCount = s.freeCount := rfl
@[simp] theorem enterUndoing_pending (d : Bool) : (enterUndoing d s).pending = s.pending := rfl

@[simp] theorem enterScanning_power (a : Bool) : (enterScanning a s).power = s.power := rfl
@[simp] theorem enterScanning_engine (a : Bool) : (enterScanning a s).engine = { s.engine with
      mode := .scanning a 1 (.heads []), fill := 0, stack := [baseCheckpoint]
      resumeOutcome := .none, resumeStop := .none } := rfl
@[simp] theorem enterScanning_touch (a : Bool) : (enterScanning a s).touch = s.touch := rfl
@[simp] theorem enterScanning_regions (a : Bool) : (enterScanning a s).regions = s.regions := rfl
@[simp] theorem enterScanning_host (a : Bool) : (enterScanning a s).host = s.host := rfl
@[simp] theorem enterScanning_port (a : Bool) : (enterScanning a s).port = s.port := rfl
@[simp] theorem enterScanning_causes (a : Bool) : (enterScanning a s).causes = s.causes := rfl
@[simp] theorem enterScanning_records (a : Bool) : (enterScanning a s).records = s.records := rfl
@[simp] theorem enterScanning_link (a : Bool) : (enterScanning a s).link = s.link := rfl
@[simp] theorem enterScanning_memory (a : Bool) : (enterScanning a s).memory = s.memory := rfl
@[simp] theorem enterScanning_freeCount (a : Bool) : (enterScanning a s).freeCount = s.freeCount := rfl
@[simp] theorem enterScanning_pending (a : Bool) : (enterScanning a s).pending = s.pending := rfl

@[simp] theorem enterDisarming_power : (enterDisarming s).power = s.power := rfl
@[simp] theorem enterDisarming_engine : (enterDisarming s).engine = { s.engine with mode := .disarming .sweep } := rfl
@[simp] theorem enterDisarming_touch : (enterDisarming s).touch = s.touch := rfl
@[simp] theorem enterDisarming_regions : (enterDisarming s).regions = s.regions := rfl
@[simp] theorem enterDisarming_host : (enterDisarming s).host = s.host := rfl
@[simp] theorem enterDisarming_port : (enterDisarming s).port = s.port := rfl
@[simp] theorem enterDisarming_causes : (enterDisarming s).causes = s.causes := rfl
@[simp] theorem enterDisarming_records : (enterDisarming s).records = s.records := rfl
@[simp] theorem enterDisarming_link : (enterDisarming s).link = s.link := rfl
@[simp] theorem enterDisarming_memory : (enterDisarming s).memory = s.memory := rfl
@[simp] theorem enterDisarming_freeCount : (enterDisarming s).freeCount = s.freeCount := rfl
@[simp] theorem enterDisarming_pending : (enterDisarming s).pending = s.pending := rfl

@[simp] theorem raise_power (c : Cause) : (raise c s).power = s.power := rfl
@[simp] theorem raise_engine (c : Cause) : (raise c s).engine = s.engine := rfl
@[simp] theorem raise_touch (c : Cause) : (raise c s).touch = s.touch := rfl
@[simp] theorem raise_regions (c : Cause) : (raise c s).regions = s.regions := rfl
@[simp] theorem raise_host (c : Cause) : (raise c s).host = s.host := rfl
@[simp] theorem raise_port (c : Cause) : (raise c s).port = s.port := rfl
@[simp] theorem raise_causes (c : Cause) : (raise c s).causes = { s.causes with
      latches := s.causes.latches ||| causeBit (causeNumber c) }.follow := rfl
@[simp] theorem raise_records (c : Cause) : (raise c s).records = s.records := rfl
@[simp] theorem raise_link (c : Cause) : (raise c s).link = s.link := rfl
@[simp] theorem raise_memory (c : Cause) : (raise c s).memory = s.memory := rfl
@[simp] theorem raise_freeCount (c : Cause) : (raise c s).freeCount = s.freeCount := rfl
@[simp] theorem raise_pending (c : Cause) : (raise c s).pending = s.pending := rfl

@[simp] theorem renew_power : (renew s).power = s.power := rfl
@[simp] theorem renew_engine : (renew s).engine = s.engine := rfl
@[simp] theorem renew_touch : (renew s).touch = s.touch := rfl
@[simp] theorem renew_regions : (renew s).regions = s.regions := rfl
@[simp] theorem renew_host : (renew s).host = s.host := rfl
@[simp] theorem renew_port : (renew s).port = s.port := rfl
@[simp] theorem renew_causes : (renew s).causes = { s.causes with latches := s.causes.latches ||| heldLatches s }.follow := rfl
@[simp] theorem renew_records : (renew s).records = s.records := rfl
@[simp] theorem renew_link : (renew s).link = s.link := rfl
@[simp] theorem renew_memory : (renew s).memory = s.memory := rfl
@[simp] theorem renew_freeCount : (renew s).freeCount = s.freeCount := rfl
@[simp] theorem renew_pending : (renew s).pending = s.pending := rfl

@[simp] theorem requestEngine_power : (requestEngine s).power = s.power := rfl
@[simp] theorem requestEngine_engine : (requestEngine s).engine = s.engine := rfl
@[simp] theorem requestEngine_touch : (requestEngine s).touch = s.touch := rfl
@[simp] theorem requestEngine_regions : (requestEngine s).regions = s.regions := rfl
@[simp] theorem requestEngine_host : (requestEngine s).host = s.host := rfl
@[simp] theorem requestEngine_port : (requestEngine s).port = { s.port with engine := if s.port.servesEngine then none else s.engine.wanted } := rfl
@[simp] theorem requestEngine_causes : (requestEngine s).causes = s.causes := rfl
@[simp] theorem requestEngine_records : (requestEngine s).records = s.records := rfl
@[simp] theorem requestEngine_link : (requestEngine s).link = s.link := rfl
@[simp] theorem requestEngine_memory : (requestEngine s).memory = s.memory := rfl
@[simp] theorem requestEngine_freeCount : (requestEngine s).freeCount = s.freeCount := rfl
@[simp] theorem requestEngine_pending : (requestEngine s).pending = s.pending := rfl

@[simp] theorem releasePort_power (w : Requester) : (releasePort w s).power = s.power := rfl
@[simp] theorem releasePort_engine (w : Requester) : (releasePort w s).engine = s.engine := rfl
@[simp] theorem releasePort_touch (w : Requester) : (releasePort w s).touch = s.touch := rfl
@[simp] theorem releasePort_regions (w : Requester) : (releasePort w s).regions = s.regions := rfl
@[simp] theorem releasePort_host (w : Requester) : (releasePort w s).host = s.host := rfl
@[simp] theorem releasePort_port (w : Requester) : (releasePort w s).port = { s.port with busy := none, last := w } := rfl
@[simp] theorem releasePort_causes (w : Requester) : (releasePort w s).causes = s.causes := rfl
@[simp] theorem releasePort_records (w : Requester) : (releasePort w s).records = s.records := rfl
@[simp] theorem releasePort_link (w : Requester) : (releasePort w s).link = s.link := rfl
@[simp] theorem releasePort_memory (w : Requester) : (releasePort w s).memory = s.memory := rfl
@[simp] theorem releasePort_freeCount (w : Requester) : (releasePort w s).freeCount = s.freeCount := rfl
@[simp] theorem releasePort_pending (w : Requester) : (releasePort w s).pending = s.pending := rfl

@[simp] theorem withdrawForward_power : (withdrawForward s).power = s.power := rfl
@[simp] theorem withdrawForward_engine : (withdrawForward s).engine = s.engine := rfl
@[simp] theorem withdrawForward_touch : (withdrawForward s).touch = s.touch := rfl
@[simp] theorem withdrawForward_regions : (withdrawForward s).regions = s.regions := rfl
@[simp] theorem withdrawForward_host : (withdrawForward s).host = s.host := rfl
@[simp] theorem withdrawForward_port : (withdrawForward s).port = { s.port with forward := none } := rfl
@[simp] theorem withdrawForward_causes : (withdrawForward s).causes = s.causes := rfl
@[simp] theorem withdrawForward_records : (withdrawForward s).records = s.records := rfl
@[simp] theorem withdrawForward_link : (withdrawForward s).link = s.link := rfl
@[simp] theorem withdrawForward_memory : (withdrawForward s).memory = s.memory := rfl
@[simp] theorem withdrawForward_freeCount : (withdrawForward s).freeCount = s.freeCount := rfl
@[simp] theorem withdrawForward_pending : (withdrawForward s).pending = s.pending := rfl

@[simp] theorem answerRefused_power (a : HostAccess) : (answerRefused a s).power = s.power := rfl
@[simp] theorem answerRefused_engine (a : HostAccess) : (answerRefused a s).engine = s.engine := rfl
@[simp] theorem answerRefused_touch (a : HostAccess) : (answerRefused a s).touch = s.touch := rfl
@[simp] theorem answerRefused_regions (a : HostAccess) : (answerRefused a s).regions = s.regions := rfl
@[simp] theorem answerRefused_host (a : HostAccess) : (answerRefused a s).host = { s.host with
      access := none, rdy := true, nBerr := a.abandoned
      dout := if a.abandoned then none else if a.dir = .read then some 0xFFFF#16 else none } := rfl
@[simp] theorem answerRefused_port (a : HostAccess) : (answerRefused a s).port = s.port := rfl
@[simp] theorem answerRefused_causes (a : HostAccess) : (answerRefused a s).causes = s.causes := rfl
@[simp] theorem answerRefused_records (a : HostAccess) : (answerRefused a s).records = s.records := rfl
@[simp] theorem answerRefused_link (a : HostAccess) : (answerRefused a s).link = s.link := rfl
@[simp] theorem answerRefused_memory (a : HostAccess) : (answerRefused a s).memory = s.memory := rfl
@[simp] theorem answerRefused_freeCount (a : HostAccess) : (answerRefused a s).freeCount = s.freeCount := rfl
@[simp] theorem answerRefused_pending (a : HostAccess) : (answerRefused a s).pending = s.pending := rfl

@[simp] theorem requestForward_power (w : Option (Fin 8)) (a : HostAccess) : (requestForward w a s).power = s.power := rfl
@[simp] theorem requestForward_engine (w : Option (Fin 8)) (a : HostAccess) : (requestForward w a s).engine = s.engine := rfl
@[simp] theorem requestForward_touch (w : Option (Fin 8)) (a : HostAccess) : (requestForward w a s).touch = s.touch := rfl
@[simp] theorem requestForward_regions (w : Option (Fin 8)) (a : HostAccess) : (requestForward w a s).regions = s.regions := rfl
@[simp] theorem requestForward_host (w : Option (Fin 8)) (a : HostAccess) : (requestForward w a s).host = { s.host with access := some { a with stage := .forwarding, watch := w } } := rfl
@[simp] theorem requestForward_port (w : Option (Fin 8)) (a : HostAccess) : (requestForward w a s).port = { s.port with forward := some (forwardAccess a) } := rfl
@[simp] theorem requestForward_causes (w : Option (Fin 8)) (a : HostAccess) : (requestForward w a s).causes = s.causes := rfl
@[simp] theorem requestForward_records (w : Option (Fin 8)) (a : HostAccess) : (requestForward w a s).records = s.records := rfl
@[simp] theorem requestForward_link (w : Option (Fin 8)) (a : HostAccess) : (requestForward w a s).link = s.link := rfl
@[simp] theorem requestForward_memory (w : Option (Fin 8)) (a : HostAccess) : (requestForward w a s).memory = s.memory := rfl
@[simp] theorem requestForward_freeCount (w : Option (Fin 8)) (a : HostAccess) : (requestForward w a s).freeCount = s.freeCount := rfl
@[simp] theorem requestForward_pending (w : Option (Fin 8)) (a : HostAccess) : (requestForward w a s).pending = s.pending := rfl

@[simp] theorem holdAccess_power (y : HoldFor) (a : HostAccess) : (holdAccess y a s).power = s.power := rfl
@[simp] theorem holdAccess_engine (y : HoldFor) (a : HostAccess) : (holdAccess y a s).engine = s.engine := rfl
@[simp] theorem holdAccess_touch (y : HoldFor) (a : HostAccess) : (holdAccess y a s).touch = s.touch := rfl
@[simp] theorem holdAccess_regions (y : HoldFor) (a : HostAccess) : (holdAccess y a s).regions = s.regions := rfl
@[simp] theorem holdAccess_host (y : HoldFor) (a : HostAccess) : (holdAccess y a s).host = { s.host with
      access := some { a with stage := .held y, watch := none, timer := some (a.timer.getD s.host.holdLimit) } } := rfl
@[simp] theorem holdAccess_port (y : HoldFor) (a : HostAccess) : (holdAccess y a s).port = s.port := rfl
@[simp] theorem holdAccess_causes (y : HoldFor) (a : HostAccess) : (holdAccess y a s).causes = s.causes := rfl
@[simp] theorem holdAccess_records (y : HoldFor) (a : HostAccess) : (holdAccess y a s).records = s.records := rfl
@[simp] theorem holdAccess_link (y : HoldFor) (a : HostAccess) : (holdAccess y a s).link = s.link := rfl
@[simp] theorem holdAccess_memory (y : HoldFor) (a : HostAccess) : (holdAccess y a s).memory = s.memory := rfl
@[simp] theorem holdAccess_freeCount (y : HoldFor) (a : HostAccess) : (holdAccess y a s).freeCount = s.freeCount := rfl
@[simp] theorem holdAccess_pending (y : HoldFor) (a : HostAccess) : (holdAccess y a s).pending = s.pending := rfl

@[simp] theorem takeArrival_power (a : HostAccess) : (takeArrival a s).power = s.power := rfl
@[simp] theorem takeArrival_engine (a : HostAccess) : (takeArrival a s).engine = s.engine := rfl
@[simp] theorem takeArrival_touch (a : HostAccess) : (takeArrival a s).touch = s.touch := rfl
@[simp] theorem takeArrival_regions (a : HostAccess) : (takeArrival a s).regions = s.regions := rfl
@[simp] theorem takeArrival_host (a : HostAccess) : (takeArrival a s).host = { s.host with access := some a, rdy := false } := rfl
@[simp] theorem takeArrival_port (a : HostAccess) : (takeArrival a s).port = s.port := rfl
@[simp] theorem takeArrival_causes (a : HostAccess) : (takeArrival a s).causes = s.causes := rfl
@[simp] theorem takeArrival_records (a : HostAccess) : (takeArrival a s).records = s.records := rfl
@[simp] theorem takeArrival_link (a : HostAccess) : (takeArrival a s).link = s.link := rfl
@[simp] theorem takeArrival_memory (a : HostAccess) : (takeArrival a s).memory = s.memory := rfl
@[simp] theorem takeArrival_freeCount (a : HostAccess) : (takeArrival a s).freeCount = s.freeCount := rfl
@[simp] theorem takeArrival_pending (a : HostAccess) : (takeArrival a s).pending = s.pending := rfl

@[simp] theorem setCycle_power (b : Bool) : (setCycle b s).power = s.power := rfl
@[simp] theorem setCycle_engine (b : Bool) : (setCycle b s).engine = s.engine := rfl
@[simp] theorem setCycle_touch (b : Bool) : (setCycle b s).touch = s.touch := rfl
@[simp] theorem setCycle_regions (b : Bool) : (setCycle b s).regions = s.regions := rfl
@[simp] theorem setCycle_host (b : Bool) : (setCycle b s).host = { s.host with cycle := b } := rfl
@[simp] theorem setCycle_port (b : Bool) : (setCycle b s).port = s.port := rfl
@[simp] theorem setCycle_causes (b : Bool) : (setCycle b s).causes = s.causes := rfl
@[simp] theorem setCycle_records (b : Bool) : (setCycle b s).records = s.records := rfl
@[simp] theorem setCycle_link (b : Bool) : (setCycle b s).link = s.link := rfl
@[simp] theorem setCycle_memory (b : Bool) : (setCycle b s).memory = s.memory := rfl
@[simp] theorem setCycle_freeCount (b : Bool) : (setCycle b s).freeCount = s.freeCount := rfl
@[simp] theorem setCycle_pending (b : Bool) : (setCycle b s).pending = s.pending := rfl

@[simp] theorem setFrame_power (f : Option Frame) : (setFrame f s).power = s.power := rfl
@[simp] theorem setFrame_engine (f : Option Frame) : (setFrame f s).engine = s.engine := rfl
@[simp] theorem setFrame_touch (f : Option Frame) : (setFrame f s).touch = s.touch := rfl
@[simp] theorem setFrame_regions (f : Option Frame) : (setFrame f s).regions = s.regions := rfl
@[simp] theorem setFrame_host (f : Option Frame) : (setFrame f s).host = s.host := rfl
@[simp] theorem setFrame_port (f : Option Frame) : (setFrame f s).port = s.port := rfl
@[simp] theorem setFrame_causes (f : Option Frame) : (setFrame f s).causes = s.causes := rfl
@[simp] theorem setFrame_records (f : Option Frame) : (setFrame f s).records = s.records := rfl
@[simp] theorem setFrame_link (f : Option Frame) : (setFrame f s).link = { s.link with frame := f } := rfl
@[simp] theorem setFrame_memory (f : Option Frame) : (setFrame f s).memory = s.memory := rfl
@[simp] theorem setFrame_freeCount (f : Option Frame) : (setFrame f s).freeCount = s.freeCount := rfl
@[simp] theorem setFrame_pending (f : Option Frame) : (setFrame f s).pending = s.pending := rfl

@[simp] theorem setSelected_power (b : Bool) : (setSelected b s).power = s.power := rfl
@[simp] theorem setSelected_engine (b : Bool) : (setSelected b s).engine = s.engine := rfl
@[simp] theorem setSelected_touch (b : Bool) : (setSelected b s).touch = s.touch := rfl
@[simp] theorem setSelected_regions (b : Bool) : (setSelected b s).regions = s.regions := rfl
@[simp] theorem setSelected_host (b : Bool) : (setSelected b s).host = s.host := rfl
@[simp] theorem setSelected_port (b : Bool) : (setSelected b s).port = s.port := rfl
@[simp] theorem setSelected_causes (b : Bool) : (setSelected b s).causes = s.causes := rfl
@[simp] theorem setSelected_records (b : Bool) : (setSelected b s).records = s.records := rfl
@[simp] theorem setSelected_link (b : Bool) : (setSelected b s).link = { s.link with selected := b } := rfl
@[simp] theorem setSelected_memory (b : Bool) : (setSelected b s).memory = s.memory := rfl
@[simp] theorem setSelected_freeCount (b : Bool) : (setSelected b s).freeCount = s.freeCount := rfl
@[simp] theorem setSelected_pending (b : Bool) : (setSelected b s).pending = s.pending := rfl

@[simp] theorem setReader_power (r : Option Reader) : (setReader r s).power = s.power := rfl
@[simp] theorem setReader_engine (r : Option Reader) : (setReader r s).engine = s.engine := rfl
@[simp] theorem setReader_touch (r : Option Reader) : (setReader r s).touch = s.touch := rfl
@[simp] theorem setReader_regions (r : Option Reader) : (setReader r s).regions = s.regions := rfl
@[simp] theorem setReader_host (r : Option Reader) : (setReader r s).host = s.host := rfl
@[simp] theorem setReader_port (r : Option Reader) : (setReader r s).port = s.port := rfl
@[simp] theorem setReader_causes (r : Option Reader) : (setReader r s).causes = s.causes := rfl
@[simp] theorem setReader_records (r : Option Reader) : (setReader r s).records = s.records := rfl
@[simp] theorem setReader_link (r : Option Reader) : (setReader r s).link = { s.link with reader := r } := rfl
@[simp] theorem setReader_memory (r : Option Reader) : (setReader r s).memory = s.memory := rfl
@[simp] theorem setReader_freeCount (r : Option Reader) : (setReader r s).freeCount = s.freeCount := rfl
@[simp] theorem setReader_pending (r : Option Reader) : (setReader r s).pending = s.pending := rfl

@[simp] theorem respond_power (c : Byte) (st : Status) (d : List Byte) : (respond c st d s).power = s.power := rfl
@[simp] theorem respond_engine (c : Byte) (st : Status) (d : List Byte) : (respond c st d s).engine = s.engine := rfl
@[simp] theorem respond_touch (c : Byte) (st : Status) (d : List Byte) : (respond c st d s).touch = s.touch := rfl
@[simp] theorem respond_regions (c : Byte) (st : Status) (d : List Byte) : (respond c st d s).regions = s.regions := rfl
@[simp] theorem respond_host (c : Byte) (st : Status) (d : List Byte) : (respond c st d s).host = s.host := rfl
@[simp] theorem respond_port (c : Byte) (st : Status) (d : List Byte) : (respond c st d s).port = s.port := rfl
@[simp] theorem respond_causes (c : Byte) (st : Status) (d : List Byte) : (respond c st d s).causes = s.causes := rfl
@[simp] theorem respond_records (c : Byte) (st : Status) (d : List Byte) : (respond c st d s).records = s.records := rfl
@[simp] theorem respond_link (c : Byte) (st : Status) (d : List Byte) : (respond c st d s).link = { s.link with frame := some { code := c, response := some (responseOf st d) } } := rfl
@[simp] theorem respond_memory (c : Byte) (st : Status) (d : List Byte) : (respond c st d s).memory = s.memory := rfl
@[simp] theorem respond_freeCount (c : Byte) (st : Status) (d : List Byte) : (respond c st d s).freeCount = s.freeCount := rfl
@[simp] theorem respond_pending (c : Byte) (st : Status) (d : List Byte) : (respond c st d s).pending = s.pending := rfl

@[simp] theorem clearMap_power : (clearMap s).power = s.power := rfl
@[simp] theorem clearMap_engine : (clearMap s).engine = s.engine := rfl
@[simp] theorem clearMap_touch : (clearMap s).touch = [] := rfl
@[simp] theorem clearMap_regions : (clearMap s).regions = s.regions := rfl
@[simp] theorem clearMap_host : (clearMap s).host = s.host := rfl
@[simp] theorem clearMap_port : (clearMap s).port = s.port := rfl
@[simp] theorem clearMap_causes : (clearMap s).causes = s.causes := rfl
@[simp] theorem clearMap_records : (clearMap s).records = s.records := rfl
@[simp] theorem clearMap_link : (clearMap s).link = s.link := rfl
@[simp] theorem clearMap_memory : (clearMap s).memory = s.memory := rfl
@[simp] theorem clearMap_freeCount : (clearMap s).freeCount = s.freeCount := rfl
@[simp] theorem clearMap_pending : (clearMap s).pending = s.pending := rfl

@[simp] theorem setRegion_power (i : Fin 8) (r : Region) : (setRegion i r s).power = s.power := rfl
@[simp] theorem setRegion_engine (i : Fin 8) (r : Region) : (setRegion i r s).engine = s.engine := rfl
@[simp] theorem setRegion_touch (i : Fin 8) (r : Region) : (setRegion i r s).touch = s.touch := rfl
@[simp] theorem setRegion_regions (i : Fin 8) (r : Region) : (setRegion i r s).regions = { s.regions with entries := s.regions.entries.set i r } := rfl
@[simp] theorem setRegion_host (i : Fin 8) (r : Region) : (setRegion i r s).host = s.host := rfl
@[simp] theorem setRegion_port (i : Fin 8) (r : Region) : (setRegion i r s).port = s.port := rfl
@[simp] theorem setRegion_causes (i : Fin 8) (r : Region) : (setRegion i r s).causes = s.causes := rfl
@[simp] theorem setRegion_records (i : Fin 8) (r : Region) : (setRegion i r s).records = s.records := rfl
@[simp] theorem setRegion_link (i : Fin 8) (r : Region) : (setRegion i r s).link = s.link := rfl
@[simp] theorem setRegion_memory (i : Fin 8) (r : Region) : (setRegion i r s).memory = s.memory := rfl
@[simp] theorem setRegion_freeCount (i : Fin 8) (r : Region) : (setRegion i r s).freeCount = s.freeCount := rfl
@[simp] theorem setRegion_pending (i : Fin 8) (r : Region) : (setRegion i r s).pending = s.pending := rfl

@[simp] theorem answer_answerRefused (a : HostAccess) :
    answer false (if a.dir = .read then some 0xFFFF#16 else none) a s = answerRefused a s := rfl

end Sys2Proof.Machine
end

