-- ==== Sys2Proof/Laws/Ops.lean ====
section
/-! SUPPORT. For each shared operation what it leaves unchanged, said once: the frames of the port, of the host
port's treatments, and of the ends of operations. -/

namespace Sys2Proof.Machine

-- One declaration at a time: the compile of the package as one text is bounded in threads.
set_option Elab.async false

/-- A grant changes the port, the memory, and the stage of the host access (R136, R140). -/
@[simp] theorem grantTo_frame (r : Requester) (x : MemAccess) (s : State) :
    (grantTo r x s).power = s.power ∧ (grantTo r x s).engine = s.engine ∧ (grantTo r x s).touch = s.touch ∧
    (grantTo r x s).regions = s.regions ∧ (grantTo r x s).causes = s.causes ∧
    (grantTo r x s).records = s.records ∧ (grantTo r x s).link = s.link ∧
    (grantTo r x s).freeCount = s.freeCount ∧ (grantTo r x s).pending = s.pending := by
  simp [grantTo]

/-- A grant changes the port, the memory, and the stage of the host access (R136, R140). -/
@[simp] theorem grant_frame (s : State) :
    (grant s).power = s.power ∧ (grant s).engine = s.engine ∧ (grant s).touch = s.touch ∧
    (grant s).regions = s.regions ∧ (grant s).causes = s.causes ∧ (grant s).records = s.records ∧
    (grant s).link = s.link ∧ (grant s).freeCount = s.freeCount ∧ (grant s).pending = s.pending := by
  unfold grant
  split
  · simp
  · split
    · simp
    · split <;> simp

/-- The close of an event changes the port, the memory, the stage of the host access and the level causes. -/
@[simp] theorem settle_frame (s : State) :
    (settle s).power = s.power ∧ (settle s).engine = s.engine ∧ (settle s).touch = s.touch ∧
    (settle s).regions = s.regions ∧ (settle s).records = s.records ∧ (settle s).link = s.link ∧
    (settle s).freeCount = s.freeCount ∧ (settle s).pending = s.pending := by
  simp [settle, requestEngine, renew]

/-- Handing a record changes the record queue, and a cause when it is full (R166). -/
@[simp] theorem handRecord_frame (a : HostAccess) (d : Half) (i : Fin 9) (o : RecordOutcome) (s : State) :
    (handRecord a d i o s).power = s.power ∧ (handRecord a d i o s).touch = s.touch ∧
    (handRecord a d i o s).regions = s.regions ∧ (handRecord a d i o s).link = s.link ∧
    (handRecord a d i o s).memory = s.memory ∧ (handRecord a d i o s).freeCount = s.freeCount ∧
    (handRecord a d i o s).pending = s.pending ∧ (handRecord a d i o s).engine = s.engine ∧
    (handRecord a d i o s).host = s.host ∧ (handRecord a d i o s).port = s.port := by
  unfold handRecord
  dsimp only
  split <;> simp [raise]

/-- A refusal answers the access, latches a cause and may hand a record (R125, R127). -/
@[simp] theorem refuseAccess_frame (r : Option (Fin 9)) (a : HostAccess) (s : State) :
    (refuseAccess r a s).power = s.power ∧ (refuseAccess r a s).touch = s.touch ∧
    (refuseAccess r a s).regions = s.regions ∧ (refuseAccess r a s).link = s.link ∧
    (refuseAccess r a s).memory = s.memory ∧ (refuseAccess r a s).freeCount = s.freeCount ∧
    (refuseAccess r a s).pending = s.pending ∧ (refuseAccess r a s).port.busy = s.port.busy ∧
    (refuseAccess r a s).port.last = s.port.last ∧ (refuseAccess r a s).port.engine = s.port.engine ∧
    (refuseAccess r a s).port.link = s.port.link ∧ (refuseAccess r a s).host.holdLimit = s.host.holdLimit ∧
    (refuseAccess r a s).host.cycle = s.host.cycle ∧ (refuseAccess r a s).engine = s.engine ∧
    (refuseAccess r a s).port = s.port := by
  unfold refuseAccess
  cases r <;> simp [answerRefused, answer, raise]

/-- A lookup changes the access, its forward, the engine's mode and the cause of a full journal (R24, R52, R53). -/
@[simp] theorem lookupWrite_frame (a : HostAccess) (s : State) :
    (lookupWrite a s).power = s.power ∧ (lookupWrite a s).touch = s.touch ∧
    (lookupWrite a s).regions = s.regions ∧ (lookupWrite a s).link = s.link ∧
    (lookupWrite a s).memory = s.memory ∧ (lookupWrite a s).freeCount = s.freeCount ∧
    (lookupWrite a s).pending = s.pending ∧ (lookupWrite a s).port.busy = s.port.busy ∧
    (lookupWrite a s).port.last = s.port.last ∧ (lookupWrite a s).port.engine = s.port.engine ∧
    (lookupWrite a s).port.link = s.port.link ∧ (lookupWrite a s).host.holdLimit = s.host.holdLimit ∧
    (lookupWrite a s).host.cycle = s.host.cycle ∧ (lookupWrite a s).engine.fill = s.engine.fill ∧
    (lookupWrite a s).engine.stack = s.engine.stack ∧ (lookupWrite a s).engine.epoch = s.engine.epoch ∧
    (lookupWrite a s).engine.headSequence = s.engine.headSequence ∧
    (lookupWrite a s).engine.current = s.engine.current ∧ (lookupWrite a s).engine.base = s.engine.base ∧
    (lookupWrite a s).engine.slots = s.engine.slots ∧ (lookupWrite a s).engine.policy = s.engine.policy ∧
    (lookupWrite a s).engine.highMark = s.engine.highMark ∧
    (lookupWrite a s).engine.markEnable = s.engine.markEnable ∧
    (lookupWrite a s).engine.undoEnable = s.engine.undoEnable ∧
    (lookupWrite a s).engine.markLine = s.engine.markLine ∧
    (lookupWrite a s).engine.undoLine = s.engine.undoLine ∧
    (lookupWrite a s).engine.markPending = s.engine.markPending ∧
    (lookupWrite a s).engine.undoPending = s.engine.undoPending ∧
    (lookupWrite a s).engine.undoCount = s.engine.undoCount ∧
    (lookupWrite a s).engine.undoOutcome = s.engine.undoOutcome ∧
    (lookupWrite a s).engine.resumeOutcome = s.engine.resumeOutcome ∧
    (lookupWrite a s).engine.resumeStop = s.engine.resumeStop ∧ (lookupWrite a s).records = s.records := by
  unfold lookupWrite
  dsimp only
  split
  · simp [requestForward]
  · split
    · simp [beginSave, holdAccess, setMode]
    · split
      · simp [refuseFull, answerRefused, answer, raise]
      · simp [beginBreak, holdAccess, setMode]

/-- A treatment changes the access, its forward, causes, records, and the engine's mode (R127 to R131). -/
@[simp] theorem treat_frame (t : Treatment) (a : HostAccess) (s : State) :
    (treat t a s).power = s.power ∧ (treat t a s).touch = s.touch ∧ (treat t a s).regions = s.regions ∧
    (treat t a s).link = s.link ∧ (treat t a s).memory = s.memory ∧ (treat t a s).freeCount = s.freeCount ∧
    (treat t a s).pending = s.pending ∧ (treat t a s).port.busy = s.port.busy ∧
    (treat t a s).port.last = s.port.last ∧ (treat t a s).port.engine = s.port.engine ∧
    (treat t a s).port.link = s.port.link ∧ (treat t a s).host.holdLimit = s.host.holdLimit ∧
    (treat t a s).host.cycle = s.host.cycle ∧ (treat t a s).engine.fill = s.engine.fill ∧
    (treat t a s).engine.stack = s.engine.stack ∧ (treat t a s).engine.epoch = s.engine.epoch ∧
    (treat t a s).engine.headSequence = s.engine.headSequence ∧
    (treat t a s).engine.current = s.engine.current ∧ (treat t a s).engine.base = s.engine.base ∧
    (treat t a s).engine.slots = s.engine.slots ∧ (treat t a s).engine.policy = s.engine.policy ∧
    (treat t a s).engine.highMark = s.engine.highMark ∧
    (treat t a s).engine.markEnable = s.engine.markEnable ∧
    (treat t a s).engine.undoEnable = s.engine.undoEnable ∧
    (treat t a s).engine.markLine = s.engine.markLine ∧ (treat t a s).engine.undoLine = s.engine.undoLine ∧
    (treat t a s).engine.markPending = s.engine.markPending ∧
    (treat t a s).engine.undoPending = s.engine.undoPending ∧
    (treat t a s).engine.undoCount = s.engine.undoCount ∧
    (treat t a s).engine.undoOutcome = s.engine.undoOutcome ∧
    (treat t a s).engine.resumeOutcome = s.engine.resumeOutcome ∧
    (treat t a s).engine.resumeStop = s.engine.resumeStop := by
  unfold treat
  cases t <;> simp [requestForward, holdAccess]

/-- The held access is treated (R132). -/
@[simp] theorem resolveHeld_frame (s : State) :
    (resolveHeld s).power = s.power ∧ (resolveHeld s).touch = s.touch ∧
    (resolveHeld s).regions = s.regions ∧ (resolveHeld s).link = s.link ∧
    (resolveHeld s).memory = s.memory ∧ (resolveHeld s).freeCount = s.freeCount ∧
    (resolveHeld s).pending = s.pending ∧ (resolveHeld s).port.busy = s.port.busy ∧
    (resolveHeld s).port.last = s.port.last ∧ (resolveHeld s).port.engine = s.port.engine ∧
    (resolveHeld s).port.link = s.port.link ∧ (resolveHeld s).host.holdLimit = s.host.holdLimit ∧
    (resolveHeld s).host.cycle = s.host.cycle ∧ (resolveHeld s).engine.fill = s.engine.fill ∧
    (resolveHeld s).engine.stack = s.engine.stack ∧ (resolveHeld s).engine.epoch = s.engine.epoch ∧
    (resolveHeld s).engine.headSequence = s.engine.headSequence ∧
    (resolveHeld s).engine.current = s.engine.current ∧ (resolveHeld s).engine.base = s.engine.base ∧
    (resolveHeld s).engine.slots = s.engine.slots ∧ (resolveHeld s).engine.policy = s.engine.policy ∧
    (resolveHeld s).engine.highMark = s.engine.highMark ∧
    (resolveHeld s).engine.markEnable = s.engine.markEnable ∧
    (resolveHeld s).engine.undoEnable = s.engine.undoEnable ∧
    (resolveHeld s).engine.markLine = s.engine.markLine ∧
    (resolveHeld s).engine.undoLine = s.engine.undoLine ∧
    (resolveHeld s).engine.markPending = s.engine.markPending ∧
    (resolveHeld s).engine.undoPending = s.engine.undoPending ∧
    (resolveHeld s).engine.undoCount = s.engine.undoCount ∧
    (resolveHeld s).engine.undoOutcome = s.engine.undoOutcome ∧
    (resolveHeld s).engine.resumeOutcome = s.engine.resumeOutcome ∧
    (resolveHeld s).engine.resumeStop = s.engine.resumeStop := by
  unfold resolveHeld
  split
  · simp
  · split
    · simp
    · split <;> simp [requestForward]
    all_goals simp

/-- The waiting forward is treated (R149). -/
@[simp] theorem reclassifyWaiting_frame (s : State) :
    (reclassifyWaiting s).power = s.power ∧ (reclassifyWaiting s).touch = s.touch ∧
    (reclassifyWaiting s).regions = s.regions ∧ (reclassifyWaiting s).link = s.link ∧
    (reclassifyWaiting s).memory = s.memory ∧ (reclassifyWaiting s).freeCount = s.freeCount ∧
    (reclassifyWaiting s).pending = s.pending ∧ (reclassifyWaiting s).port.busy = s.port.busy ∧
    (reclassifyWaiting s).port.last = s.port.last ∧ (reclassifyWaiting s).port.engine = s.port.engine ∧
    (reclassifyWaiting s).port.link = s.port.link ∧
    (reclassifyWaiting s).host.holdLimit = s.host.holdLimit ∧
    (reclassifyWaiting s).host.cycle = s.host.cycle ∧ (reclassifyWaiting s).engine.fill = s.engine.fill ∧
    (reclassifyWaiting s).engine.stack = s.engine.stack ∧
    (reclassifyWaiting s).engine.epoch = s.engine.epoch ∧
    (reclassifyWaiting s).engine.headSequence = s.engine.headSequence ∧
    (reclassifyWaiting s).engine.current = s.engine.current ∧
    (reclassifyWaiting s).engine.base = s.engine.base ∧
    (reclassifyWaiting s).engine.slots = s.engine.slots ∧
    (reclassifyWaiting s).engine.policy = s.engine.policy ∧
    (reclassifyWaiting s).engine.highMark = s.engine.highMark ∧
    (reclassifyWaiting s).engine.markEnable = s.engine.markEnable ∧
    (reclassifyWaiting s).engine.undoEnable = s.engine.undoEnable ∧
    (reclassifyWaiting s).engine.markLine = s.engine.markLine ∧
    (reclassifyWaiting s).engine.undoLine = s.engine.undoLine ∧
    (reclassifyWaiting s).engine.markPending = s.engine.markPending ∧
    (reclassifyWaiting s).engine.undoPending = s.engine.undoPending ∧
    (reclassifyWaiting s).engine.undoCount = s.engine.undoCount ∧
    (reclassifyWaiting s).engine.undoOutcome = s.engine.undoOutcome ∧
    (reclassifyWaiting s).engine.resumeOutcome = s.engine.resumeOutcome ∧
    (reclassifyWaiting s).engine.resumeStop = s.engine.resumeStop := by
  unfold reclassifyWaiting
  split
  · simp
  · split <;> simp [withdrawForward]

/-- The pending flags are cleared, with REQUEST_REFUSED (R70). -/
@[simp] theorem refusePending_frame (s : State) :
    (refusePending s).power = s.power ∧ (refusePending s).touch = s.touch ∧
    (refusePending s).regions = s.regions ∧ (refusePending s).link = s.link ∧
    (refusePending s).memory = s.memory ∧ (refusePending s).freeCount = s.freeCount ∧
    (refusePending s).pending = s.pending ∧ (refusePending s).port.busy = s.port.busy ∧
    (refusePending s).port.last = s.port.last ∧ (refusePending s).port.engine = s.port.engine ∧
    (refusePending s).port.link = s.port.link ∧ (refusePending s).host.holdLimit = s.host.holdLimit ∧
    (refusePending s).host.cycle = s.host.cycle ∧ (refusePending s).engine.fill = s.engine.fill ∧
    (refusePending s).engine.stack = s.engine.stack ∧ (refusePending s).engine.epoch = s.engine.epoch ∧
    (refusePending s).engine.headSequence = s.engine.headSequence ∧
    (refusePending s).engine.current = s.engine.current ∧ (refusePending s).engine.base = s.engine.base ∧
    (refusePending s).engine.slots = s.engine.slots ∧ (refusePending s).engine.policy = s.engine.policy ∧
    (refusePending s).engine.highMark = s.engine.highMark ∧
    (refusePending s).engine.markEnable = s.engine.markEnable ∧
    (refusePending s).engine.undoEnable = s.engine.undoEnable ∧
    (refusePending s).engine.markLine = s.engine.markLine ∧
    (refusePending s).engine.undoLine = s.engine.undoLine ∧ (refusePending s).engine.mode = s.engine.mode ∧
    (refusePending s).engine.undoCount = s.engine.undoCount ∧
    (refusePending s).engine.undoOutcome = s.engine.undoOutcome ∧
    (refusePending s).engine.resumeOutcome = s.engine.resumeOutcome ∧
    (refusePending s).engine.resumeStop = s.engine.resumeStop ∧ (refusePending s).host = s.host ∧
    (refusePending s).port = s.port ∧ (refusePending s).records = s.records := by
  unfold refusePending
  split <;> simp [raise, setMarkPending, setUndoPending]

/-- The rest in ACTIVE takes a pending MARK and treats the held access (R69). -/
@[simp] theorem restActive_frame (s : State) :
    (restActive s).power = s.power ∧ (restActive s).touch = s.touch ∧ (restActive s).regions = s.regions ∧
    (restActive s).link = s.link ∧ (restActive s).memory = s.memory ∧
    (restActive s).freeCount = s.freeCount ∧ (restActive s).pending = s.pending ∧
    (restActive s).port.busy = s.port.busy ∧ (restActive s).port.last = s.port.last ∧
    (restActive s).port.engine = s.port.engine ∧ (restActive s).port.link = s.port.link ∧
    (restActive s).host.holdLimit = s.host.holdLimit ∧ (restActive s).host.cycle = s.host.cycle ∧
    (restActive s).engine.fill = s.engine.fill ∧ (restActive s).engine.stack = s.engine.stack ∧
    (restActive s).engine.epoch = s.engine.epoch ∧
    (restActive s).engine.headSequence = s.engine.headSequence ∧
    (restActive s).engine.current = s.engine.current ∧ (restActive s).engine.base = s.engine.base ∧
    (restActive s).engine.slots = s.engine.slots ∧ (restActive s).engine.policy = s.engine.policy ∧
    (restActive s).engine.highMark = s.engine.highMark ∧
    (restActive s).engine.markEnable = s.engine.markEnable ∧
    (restActive s).engine.undoEnable = s.engine.undoEnable ∧
    (restActive s).engine.markLine = s.engine.markLine ∧
    (restActive s).engine.undoLine = s.engine.undoLine ∧
    (restActive s).engine.undoPending = s.engine.undoPending ∧
    (restActive s).engine.undoCount = s.engine.undoCount ∧
    (restActive s).engine.undoOutcome = s.engine.undoOutcome ∧
    (restActive s).engine.resumeOutcome = s.engine.resumeOutcome ∧
    (restActive s).engine.resumeStop = s.engine.resumeStop := by
  unfold restActive
  dsimp only
  split
  · split <;> simp [beginMark, refuseMarkRequest, raise, setMarkPending, setMode]
  · simp

/-- The entry into ACTIVE takes the pending requests and treats the held access (R69). -/
@[simp] theorem enterActive_frame (s : State) :
    (enterActive s).power = s.power ∧ (enterActive s).touch = s.touch ∧
    (enterActive s).regions = s.regions ∧ (enterActive s).link = s.link ∧
    (enterActive s).memory = s.memory ∧ (enterActive s).freeCount = s.freeCount ∧
    (enterActive s).pending = s.pending ∧ (enterActive s).port.busy = s.port.busy ∧
    (enterActive s).port.last = s.port.last ∧ (enterActive s).port.engine = s.port.engine ∧
    (enterActive s).port.link = s.port.link ∧ (enterActive s).host.holdLimit = s.host.holdLimit ∧
    (enterActive s).host.cycle = s.host.cycle ∧ (enterActive s).engine.fill = s.engine.fill ∧
    (enterActive s).engine.stack = s.engine.stack ∧ (enterActive s).engine.epoch = s.engine.epoch ∧
    (enterActive s).engine.headSequence = s.engine.headSequence ∧
    (enterActive s).engine.current = s.engine.current ∧ (enterActive s).engine.base = s.engine.base ∧
    (enterActive s).engine.slots = s.engine.slots ∧ (enterActive s).engine.policy = s.engine.policy ∧
    (enterActive s).engine.highMark = s.engine.highMark ∧
    (enterActive s).engine.markEnable = s.engine.markEnable ∧
    (enterActive s).engine.undoEnable = s.engine.undoEnable ∧
    (enterActive s).engine.markLine = s.engine.markLine ∧
    (enterActive s).engine.undoLine = s.engine.undoLine ∧
    (enterActive s).engine.resumeOutcome = s.engine.resumeOutcome ∧
    (enterActive s).engine.resumeStop = s.engine.resumeStop := by
  unfold enterActive
  dsimp only
  split
  · split <;> simp [enterUndoing, undoNormal, setUndoOutcome, raise, setUndoPending, setMode]
  · simp

/-- The end in OFF empties the journal, refuses the pending requests and treats the held access (R36, R38, R70). -/
@[simp] theorem endInOff_frame (s : State) :
    (endInOff s).power = s.power ∧ (endInOff s).touch = s.touch ∧ (endInOff s).regions = s.regions ∧
    (endInOff s).link = s.link ∧ (endInOff s).memory = s.memory ∧ (endInOff s).freeCount = s.freeCount ∧
    (endInOff s).pending = s.pending ∧ (endInOff s).port.busy = s.port.busy ∧
    (endInOff s).port.last = s.port.last ∧ (endInOff s).port.engine = s.port.engine ∧
    (endInOff s).port.link = s.port.link ∧ (endInOff s).host.holdLimit = s.host.holdLimit ∧
    (endInOff s).host.cycle = s.host.cycle ∧ (endInOff s).engine.epoch = s.engine.epoch ∧
    (endInOff s).engine.headSequence = s.engine.headSequence ∧
    (endInOff s).engine.current = s.engine.current ∧ (endInOff s).engine.base = s.engine.base ∧
    (endInOff s).engine.slots = s.engine.slots ∧ (endInOff s).engine.policy = s.engine.policy ∧
    (endInOff s).engine.highMark = s.engine.highMark ∧
    (endInOff s).engine.markEnable = s.engine.markEnable ∧
    (endInOff s).engine.undoEnable = s.engine.undoEnable ∧
    (endInOff s).engine.markLine = s.engine.markLine ∧ (endInOff s).engine.undoLine = s.engine.undoLine ∧
    (endInOff s).engine.undoCount = s.engine.undoCount ∧
    (endInOff s).engine.undoOutcome = s.engine.undoOutcome ∧
    (endInOff s).engine.resumeOutcome = s.engine.resumeOutcome ∧
    (endInOff s).engine.resumeStop = s.engine.resumeStop ∧ (endInOff s).engine.fill = 0 ∧
    (endInOff s).engine.stack = [] := by
  simp [endInOff, emptyJournal, setFill, setStack, setMode]

/-- The end in BROKEN empties the journal, refuses the pending requests and treats the held access (R36, R38, R70). -/
@[simp] theorem endInBroken_frame (s : State) :
    (endInBroken s).power = s.power ∧ (endInBroken s).touch = s.touch ∧
    (endInBroken s).regions = s.regions ∧ (endInBroken s).link = s.link ∧
    (endInBroken s).memory = s.memory ∧ (endInBroken s).freeCount = s.freeCount ∧
    (endInBroken s).pending = s.pending ∧ (endInBroken s).port.busy = s.port.busy ∧
    (endInBroken s).port.last = s.port.last ∧ (endInBroken s).port.engine = s.port.engine ∧
    (endInBroken s).port.link = s.port.link ∧ (endInBroken s).host.holdLimit = s.host.holdLimit ∧
    (endInBroken s).host.cycle = s.host.cycle ∧ (endInBroken s).engine.epoch = s.engine.epoch ∧
    (endInBroken s).engine.headSequence = s.engine.headSequence ∧
    (endInBroken s).engine.current = s.engine.current ∧ (endInBroken s).engine.base = s.engine.base ∧
    (endInBroken s).engine.slots = s.engine.slots ∧ (endInBroken s).engine.policy = s.engine.policy ∧
    (endInBroken s).engine.highMark = s.engine.highMark ∧
    (endInBroken s).engine.markEnable = s.engine.markEnable ∧
    (endInBroken s).engine.undoEnable = s.engine.undoEnable ∧
    (endInBroken s).engine.markLine = s.engine.markLine ∧
    (endInBroken s).engine.undoLine = s.engine.undoLine ∧
    (endInBroken s).engine.undoCount = s.engine.undoCount ∧
    (endInBroken s).engine.undoOutcome = s.engine.undoOutcome ∧
    (endInBroken s).engine.resumeOutcome = s.engine.resumeOutcome ∧
    (endInBroken s).engine.resumeStop = s.engine.resumeStop ∧ (endInBroken s).engine.fill = 0 ∧
    (endInBroken s).engine.stack = [] := by
  simp [endInBroken, emptyJournal, setFill, setStack, setMode, raise]

/-- Only ACTIVE sends an access to the touch map (R24, R129). -/
theorem classify_ne_lookup (s : State) (a : HalfAddr) (d : Direction) (h : s.engine.mode ≠ .active) :
    classify s a d ≠ .lookup := by
  unfold classify
  simp only
  split
  · simp
  · split
    · cases d <;> simp [areaTreatment]
    · split
      · rename_i i _
        cases hm : (s.regions.entries.get i).mode <;> cases d <;> simp [regionTreatment]
        · cases hn : s.engine.mode <;> simp [Mode.name, journaledTreatment]
        · cases hn : s.engine.mode <;> simp_all [Mode.name, journaledTreatment]
      · simp

/-- Outside ACTIVE a waiting forward classified afresh leaves the engine as it is (R149). -/
theorem reclassifyWaiting_engine (s : State) (h : s.engine.mode ≠ .active) :
    (reclassifyWaiting s).engine = s.engine := by
  unfold reclassifyWaiting
  cases ha : s.host.access with
  | none => rfl
  | some a =>
    cases hst : a.stage with
    | held w => simp [hst]
    | granted => simp [hst]
    | forwarding =>
      simp only [hst]
      cases hc : classify s a.addr a.dir with
      | forward w => rfl
      | hold => rfl
      | lookup => exact absurd hc (classify_ne_lookup s _ _ h)
      | refuse r =>
        cases r with
        | none => rfl
        | some i =>
          simp only [treat, refuseAccess, answerRefused, answer, raise, handRecord]
          split <;> rfl

/-- The completion of an engine access runs the operation on at the freed port, with the halfword found at
the grant (R139). -/
theorem exec_engineAccess (s : State) (b : PortBusy) (hp : s.power = .running)
    (hb : s.port.busy = some b) (hw : b.who = .engine) :
    exec .engineAccessComplete s = .next (settle (advance b.seen (releasePort .engine s))) := by
  simp [exec, execEngineAccessComplete, hp, hb, hw]

/-- A link frame at a listening link with a matching CRC byte is taken: its frame is open and the
command acts (R172). -/
theorem takeFrame_taken (bytes : List Byte) (crc : Byte) (act : State → State) (s : State)
    (hp : s.power = .running) (hi : s.link.ignoring = false) (hc : crc = crc8 bytes) :
    takeFrame bytes crc act s = act (openFrame s) := by
  simp [takeFrame, listening, hp, hi, hc]

/-- A frame whose CRC byte does not match is answered CHECK (R174). -/
theorem takeFrame_check (bytes : List Byte) (crc : Byte) (act : State → State) (s : State)
    (hp : s.power = .running) (hi : s.link.ignoring = false) (hc : crc ≠ crc8 bytes) :
    takeFrame bytes crc act s
      = respondEmpty (codeOf bytes) .check (raise .linkError (openFrame s)) := by
  simp [takeFrame, listening, hp, hi, Ne.symm hc]

/-- A link that does not listen takes nothing (R37, R186). -/
theorem takeFrame_deaf (bytes : List Byte) (crc : Byte) (act : State → State) (s : State)
    (h : s.power ≠ .running ∨ s.link.ignoring = true) : takeFrame bytes crc act s = s := by
  rcases h with h | h <;> simp [takeFrame, listening, h]

/-- The state tests of R35 and R177. -/
theorem gated_busy (code : Byte) (taken : StateName → Bool) (act : State → State) (s : State)
    (h : s.engine.mode.name.resting = false) : gated code taken act s = respond code .busy [] s := by
  simp [gated, stateTest, h]

theorem gated_state (code : Byte) (taken : StateName → Bool) (act : State → State) (s : State)
    (h : s.engine.mode.name.resting = true) (ht : taken s.engine.mode.name = false) :
    gated code taken act s = respond code .state [] s := by
  simp [gated, stateTest, h, ht]

theorem gated_taken (code : Byte) (taken : StateName → Bool) (act : State → State) (s : State)
    (h : s.engine.mode.name.resting = true) (ht : taken s.engine.mode.name = true) :
    gated code taken act s = act s := by
  simp [gated, stateTest, h, ht]

end Sys2Proof.Machine
end

