-- ==== Sys2Proof/Laws/Link.lean ====
section
/-! SUPPORT. The link's operations in the terms of the statements: a frame closed, a command taken, an answer. -/

namespace Sys2Proof.Safety

-- One declaration at a time: the compile of the package as one text is bounded in threads.
set_option Elab.async false

open Sys2Proof.Machine

theorem endSeries_eq (s : State) : endSeries s = seriesEnded s := by
  unfold endSeries seriesEnded setReader discardGranted
  cases h : s.link.reader <;> simp

theorem closeFrame_eq (s : State) : closeFrame s = frameEnded s := by
  simp [closeFrame, frameEnded, setFrame, setSelected, endSeries_eq]

theorem openFrame_eq (s : State) : openFrame s = frameBegun s := by
  simp [openFrame, closeFrame, frameBegun, setFrame, setSelected, endSeries_eq]

/-- A frame that begins is one that has ended with nSS low again (R169). -/
theorem frameBegun_eq_selected (s : State) : frameBegun s = setSelected true (frameEnded s) := rfl

theorem respond_eq (code : Byte) (st : Status) (data : List Byte) (s : State) :
    respond code st data s = replied code st data s := rfl

theorem respondEmpty_eq (code : Byte) (st : Status) (s : State) :
    respondEmpty code st s = repliedZeros code st s := rfl

/-- A closed frame changes the link and the memory port alone (R185). -/
theorem frameEnded_eq (s : State) :
    frameEnded s = { s with link := (frameEnded s).link, port := (frameEnded s).port } := by
  unfold frameEnded seriesEnded
  split <;> rfl

@[simp] theorem frameEnded_frame (s : State) :
    (frameEnded s).power = s.power ∧ (frameEnded s).engine = s.engine ∧ (frameEnded s).touch = s.touch ∧
    (frameEnded s).regions = s.regions ∧ (frameEnded s).host = s.host ∧
    (frameEnded s).causes = s.causes ∧ (frameEnded s).records = s.records ∧
    (frameEnded s).memory = s.memory ∧ (frameEnded s).freeCount = s.freeCount ∧
    (frameEnded s).pending = s.pending ∧ (frameEnded s).port.last = s.port.last ∧
    (frameEnded s).port.forward = s.port.forward ∧ (frameEnded s).port.engine = s.port.engine := by
  unfold frameEnded seriesEnded
  split <;> simp

/-- A closed frame leaves the requester of the access in progress. -/
theorem frameEnded_busy_who (s : State) :
    (frameEnded s).port.busy.map PortBusy.who = s.port.busy.map PortBusy.who := by
  unfold frameEnded seriesEnded
  split
  · cases s.port.busy with
    | none => rfl
    | some b => by_cases h : b.who = .link <;> simp [h]
  · rfl

/-- A frame that begins changes the link and the memory port alone (R185). -/
theorem frameBegun_eq (s : State) :
    frameBegun s = { s with link := (frameBegun s).link, port := (frameBegun s).port } := by
  unfold frameBegun seriesEnded
  split <;> rfl

@[simp] theorem frameBegun_frame (s : State) :
    (frameBegun s).power = s.power ∧ (frameBegun s).engine = s.engine ∧ (frameBegun s).touch = s.touch ∧
    (frameBegun s).regions = s.regions ∧ (frameBegun s).host = s.host ∧
    (frameBegun s).causes = s.causes ∧ (frameBegun s).records = s.records ∧
    (frameBegun s).memory = s.memory ∧ (frameBegun s).freeCount = s.freeCount ∧
    (frameBegun s).pending = s.pending ∧ (frameBegun s).port.last = s.port.last ∧
    (frameBegun s).port.forward = s.port.forward ∧ (frameBegun s).port.engine = s.port.engine := by
  unfold frameBegun seriesEnded
  split <;> simp

/-- A frame that begins leaves the requester of the access in progress. -/
theorem frameBegun_busy_who (s : State) :
    (frameBegun s).port.busy.map PortBusy.who = s.port.busy.map PortBusy.who := by
  unfold frameBegun seriesEnded
  split
  · cases s.port.busy with
    | none => rfl
    | some b => by_cases h : b.who = .link <;> simp [h]
  · rfl

/-- A command that is taken acts on the state with its frame open (R172). -/
theorem takeFrame_of_taken {i : Instr} {s : State} {crc : Byte} {act : State → State}
    (h : Taken i s) (hc : crcByte i = some crc) :
    takeFrame (commandBytes i) crc act s = act (frameBegun s) := by
  obtain ⟨h1, h2, h3⟩ := h
  rw [h3, Option.some.injEq] at hc
  rw [takeFrame_taken _ _ _ _ h1 h2 hc.symm, openFrame_eq]

/-- The eight bits of a byte are sampled as that byte (R169). -/
theorem byteOfBits_byteBits : ∀ b : Byte, byteOfBits (byteBits b) = b := by decide +kernel

theorem bytesOfBits_byteBits_append (b : Byte) (rest : List Bool) :
    bytesOfBits (byteBits b ++ rest) = b :: bytesOfBits rest := by
  have h : byteBits b = [b.getMsbD 0, b.getMsbD 1, b.getMsbD 2, b.getMsbD 3, b.getMsbD 4, b.getMsbD 5,
    b.getMsbD 6, b.getMsbD 7] := rfl
  have hb := byteOfBits_byteBits b
  rw [h] at hb ⊢
  simp [bytesOfBits, hb]

/-- One bit sent on an open frame is sampled and leaves SDO at its own position, whatever level SCK had; with SCK
low the position must be the one that the falling edge has left (R169). -/
theorem clock_bit_sampled (w : Wire) (b : Bool) (h : w.selected = true)
    (hs : w.sck = false → w.shown = w.sampled.length) :
    (w.clock false b).clock true b
      = { w with sck := true, sampled := w.sampled ++ [b], shown := w.sampled.length } := by
  cases hk : w.sck
  · simp [Wire.clock, h, hk, hs hk]
  · simp [Wire.clock, h, hk]

/-- A two-byte field as its number (R169). -/
theorem beBytes_eq (h : Half) : beBytes h = twoBytes h.toNat := by
  simp only [beBytes, twoBytes, List.cons.injEq, and_true]
  constructor <;> apply BitVec.eq_of_toNat_eq
  · simp only [highByte_toNat, BitVec.toNat_ofNat]
    have := h.isLt
    omega
  · simp only [lowByte_toNat, BitVec.toNat_ofNat]

theorem beBytes_half (n : Nat) : beBytes (half n) = twoBytes n := by
  rw [beBytes_eq]
  simp only [half, twoBytes, BitVec.toNat_ofNat, List.cons.injEq, and_true]
  constructor <;> apply BitVec.eq_of_toNat_eq <;> simp only [BitVec.toNat_ofNat] <;> omega

end Sys2Proof.Safety
end

