-- ==== Sys2Proof/Laws/PerInstr.lean ====
section
/-! SUPPORT. The family FrameShape: what holds of the bytes of every command, one lemma per constructor. -/

/-- R175: an unknown code takes no parameters. -/
theorem Sys2Proof.parameterBytes_unknown (code : Sys2Proof.Byte) (h : code ∉ Sys2Proof.knownCodes) : Sys2Proof.parameterBytes code = 0 := by
  simp only [Sys2Proof.knownCodes, List.mem_cons, List.not_mem_nil, or_false, not_or] at h
  simp [Sys2Proof.parameterBytes, h]

namespace Sys2Proof.Laws.FrameShape

-- One declaration at a time: the compile of the package as one text is bounded in threads.
set_option Elab.async false

/-- R170: a command of the link carries a command CRC byte and exactly the parameters of its code; a step that is
not a command of the link has no bytes. -/
def Statement (i : Instr) : Prop :=
  (commandBytes i = [] ↔ crcByte i = none) ∧
  (i.wellFormed = true → commandBytes i ≠ [] →
    (commandBytes i).length = 1 + parameterBytes ((commandBytes i).headD 0#8))

theorem resetAssert : Statement .resetAssert := by
  simp [Statement, commandBytes, crcByte, parameterBytes]

theorem resetRelease (jsel : BitVec 4) (autoUndo markHigh undoHigh nssLow : Bool) :
    Statement (.resetRelease jsel autoUndo markHigh undoHigh nssLow) := by
  simp [Statement, commandBytes, crcByte, parameterBytes]

theorem supplyLoss : Statement .supplyLoss := by
  simp [Statement, commandBytes, crcByte, parameterBytes]

theorem hostAccessArrive (addr : HalfAddr) (strobes : Strobes) (lower upper : Bool) (data : Half) :
    Statement (.hostAccessArrive addr strobes lower upper data) := by
  simp [Statement, commandBytes, crcByte, parameterBytes]

theorem hostCycleEnd : Statement .hostCycleEnd := by
  simp [Statement, commandBytes, crcByte, parameterBytes]

theorem forwardComplete : Statement .forwardComplete := by
  simp [Statement, commandBytes, crcByte, parameterBytes]

theorem holdTimerExpire : Statement .holdTimerExpire := by
  simp [Statement, commandBytes, crcByte, parameterBytes]

theorem engineAccessComplete : Statement .engineAccessComplete := by
  simp [Statement, commandBytes, crcByte, parameterBytes]

theorem clearSweepComplete : Statement .clearSweepComplete := by
  simp [Statement, commandBytes, crcByte, parameterBytes]

theorem relabelSweepComplete : Statement .relabelSweepComplete := by
  simp [Statement, commandBytes, crcByte, parameterBytes]

theorem linkReadComplete : Statement .linkReadComplete := by
  simp [Statement, commandBytes, crcByte, parameterBytes]

theorem linkReadStatusDue : Statement .linkReadStatusDue := by
  simp [Statement, commandBytes, crcByte, parameterBytes]

theorem markReqEdge : Statement .markReqEdge := by
  simp [Statement, commandBytes, crcByte, parameterBytes]

theorem undoReqEdge : Statement .undoReqEdge := by
  simp [Statement, commandBytes, crcByte, parameterBytes]

theorem linkShortFrame : Statement .linkShortFrame := by
  simp [Statement, commandBytes, crcByte, parameterBytes]

theorem linkFrameCut : Statement .linkFrameCut := by
  simp [Statement, commandBytes, crcByte, parameterBytes]

theorem unknownCommand (code next : Byte) : Statement (.unknownCommand code next) := by
  refine ⟨by simp [commandBytes, crcByte], fun hw _ => ?_⟩
  simp only [Instr.wellFormed, decide_eq_true_eq] at hw
  simp [commandBytes, parameterBytes_unknown code hw]

theorem status (crc : Byte) : Statement (.status crc) := by
  simp [Statement, commandBytes, crcByte, parameterBytes]

theorem fetchCause (crc : Byte) : Statement (.fetchCause crc) := by
  simp [Statement, commandBytes, crcByte, parameterBytes]

theorem clearCauses (mask : Half) (crc : Byte) : Statement (.clearCauses mask crc) := by
  simp [Statement, commandBytes, crcByte, beBytes, parameterBytes]

theorem setCauseLevel (cause level : Byte) (crc : Byte) : Statement (.setCauseLevel cause level crc) := by
  simp [Statement, commandBytes, crcByte, parameterBytes]

theorem setThreshold (threshold : Byte) (crc : Byte) : Statement (.setThreshold threshold crc) := by
  simp [Statement, commandBytes, crcByte, parameterBytes]

theorem readRecord (crc : Byte) : Statement (.readRecord crc) := by
  simp [Statement, commandBytes, crcByte, parameterBytes]

theorem writeRegion (index mode : Byte) (base length : Half) (crc : Byte) :
    Statement (.writeRegion index mode base length crc) := by
  simp [Statement, commandBytes, crcByte, parameterBytes]

theorem readRegion (index : Byte) (crc : Byte) : Statement (.readRegion index crc) := by
  simp [Statement, commandBytes, crcByte, parameterBytes]

theorem setArea (base slots : Half) (crc : Byte) : Statement (.setArea base slots crc) := by
  simp [Statement, commandBytes, crcByte, parameterBytes]

theorem setOptions (select holdLimit policy : Byte) (highMark : Half) (enables : Byte) (crc : Byte) :
    Statement (.setOptions select holdLimit policy highMark enables crc) := by
  simp [Statement, commandBytes, crcByte, parameterBytes]

theorem arm (crc : Byte) : Statement (.arm crc) := by
  simp [Statement, commandBytes, crcByte, parameterBytes]

theorem disarm (crc : Byte) : Statement (.disarm crc) := by
  simp [Statement, commandBytes, crcByte, parameterBytes]

theorem mark (label : Half) (crc : Byte) : Statement (.mark label crc) := by
  simp [Statement, commandBytes, crcByte, beBytes, parameterBytes]

theorem release (crc : Byte) : Statement (.release crc) := by
  simp [Statement, commandBytes, crcByte, parameterBytes]

theorem undo (option : Byte) (crc : Byte) : Statement (.undo option crc) := by
  simp [Statement, commandBytes, crcByte, parameterBytes]

theorem commit (crc : Byte) : Statement (.commit crc) := by
  simp [Statement, commandBytes, crcByte, parameterBytes]

theorem resume (option : Byte) (crc : Byte) : Statement (.resume option crc) := by
  simp [Statement, commandBytes, crcByte, parameterBytes]

theorem readSlot (index : Half) (crc : Byte) : Statement (.readSlot index crc) := by
  simp [Statement, commandBytes, crcByte, beBytes, parameterBytes]

theorem readHead (copy : Byte) (crc : Byte) : Statement (.readHead copy crc) := by
  simp [Statement, commandBytes, crcByte, parameterBytes]

theorem requestLineFall (line : Line) : Statement (.requestLineFall line) := by
  simp [Statement, commandBytes, crcByte, parameterBytes]

theorem nssRiseAfterRelease : Statement .nssRiseAfterRelease := by
  simp [Statement, commandBytes, crcByte, parameterBytes]

end Sys2Proof.Laws.FrameShape
end

