-- ==== Sys2Proof/Tests/Slice0.lean ====
section
/-! SUPPORT. The tests: frames written out from the spec, one-step checks of single commands, and for each
statement with hypotheses a witness that meets them. -/

namespace Sys2Proof.Tests

-- One theorem at a time: a thread for each of them would take more memory than a check has.
set_option Elab.async false

open Sys2Proof.Machine Sys2Proof.Safety

/-! ## Small states -/

/-- A command with its CRC byte. -/
def sent (f : Byte → Instr) : Instr := f (crc8 (commandBytes (f 0#8)))

/-- A state in OFF with a configured area: base 256 KiB, 16 slots, entry 1 JOURNAL over 16 to 143 KiB, entry 2
GUARD over KiB 0, entry 3 WATCH over KiB 1. -/
def offState : State :=
  { State.reset with
    engine := { State.reset.engine with base := 256, slots := 16 }
    regions := {
      entries := #v[Region.afterReset, { mode := .journal, base := 16, length := 128 },
        { mode := .guard, base := 0, length := 1 }, { mode := .watch, base := 1, length := 1 },
        Region.afterReset, Region.afterReset, Region.afterReset, Region.afterReset]
      areaBase := 256, areaSlots := 16 } }

/-- The same, armed and resting in ACTIVE at epoch 1. -/
def armed : State :=
  { offState with
    engine := { offState.engine with
      mode := .active, stack := [baseCheckpoint], epoch := 1, headSequence := 1, current := some .a } }

/-- The engine in a mode, on the state above. -/
def inMode (m : Mode) : State := { armed with engine := { armed.engine with mode := m } }

/-- The same with an engine access in progress that found `v`. -/
def serving (m : Mode) (v : Half) : State :=
  { inMode m with
    port := { State.reset.port with
      busy := some { who := .engine, access := readAt 0#19, seen := v, discard := false } } }

/-- A host access in progress in a stage. -/
def access (d : Direction) (addr : HalfAddr) (stage : Stage) (timer : Option Byte) : HostAccess :=
  { addr := addr, dir := d, lanes := bothLanes, data := 0x1234#16, stage := stage, timer := timer,
    watch := none, abandoned := false }

/-- The state with that access. -/
def holding (a : HostAccess) (s : State) : State :=
  { s with host := { s.host with access := some a, rdy := false, cycle := true } }

/-- The halfword address of a byte address. -/
def byteAddr (n : Nat) : HalfAddr := BitVec.ofNat 19 (n / 2)

/-- What a command leaves, or the state itself where it leaves none. -/
def after (i : Instr) (s : State) : State :=
  match exec i s with
  | .next t => t
  | .fault _ => s
  | .refused _ => s

/-- The memory with a series of halfwords written from a halfword address. -/
def stored (start : HalfAddr) (ws : List Half) : Memory :=
  ws.zipIdx.foldl (fun m w => writeHalf m (start + BitVec.ofNat 19 w.2) bothLanes w.1) []

/-! ## Well-formedness, frames and checks -/

theorem test_wellFormed_unknown_code : (Instr.unknownCommand 0x51#8 0#8).wellFormed = true := by decide

theorem test_illFormed_known_code : (Instr.unknownCommand 0x01#8 0#8).wellFormed = false := by decide

theorem test_illFormed_refused :
    exec (.unknownCommand 0x01#8 0#8) armed = .refused .illFormed := by rfl

/-- R189, R170: frames written out from the code table and the parameter order. -/
theorem test_decode_status : decodeFrame [0x01#8, 0x07#8] = some (.status 0x07#8) := by decide

theorem test_decode_mark :
    decodeFrame [0x22#8, 0x0A#8, 0x01#8, 0x5C#8] = some (.mark 0x0A01#16 0x5C#8) := by decide

theorem test_decode_setArea : decodeFrame [0x12#8, 0x01#8, 0x00#8, 0x03#8, 0xE8#8, 0x11#8]
    = some (.setArea 256#16 1000#16 0x11#8) := by decide

theorem test_decode_writeRegion : decodeFrame
    [0x10#8, 0x01#8, 0x01#8, 0x00#8, 0x10#8, 0x00#8, 0x80#8, 0x22#8]
    = some (.writeRegion 1#8 1#8 16#16 128#16 0x22#8) := by decide

theorem test_decode_setOptions : decodeFrame
    [0x13#8, 0x09#8, 0x28#8, 0x00#8, 0x00#8, 0x00#8, 0x03#8, 0x33#8]
    = some (.setOptions 9#8 40#8 0#8 0#16 3#8 0x33#8) := by decide

theorem test_decode_readSlot :
    decodeFrame [0x30#8, 0x01#8, 0x02#8, 0x44#8] = some (.readSlot 0x0102#16 0x44#8) := by decide

theorem test_decode_unknown :
    decodeFrame [0x51#8, 0x00#8] = some (.unknownCommand 0x51#8 0x00#8) := by decide

/-- R173: a frame that ends before its command CRC byte is no command. -/
theorem test_decode_short : decodeFrame [0x20#8] = none := by decide

/-- R14, R171: the check values of the nine bytes 31h to 39h. -/
theorem test_crc16_check_value :
    crc16 [0x31#8, 0x32#8, 0x33#8, 0x34#8, 0x35#8, 0x36#8, 0x37#8, 0x38#8, 0x39#8] = 0x29B1#16 := by
  decide +kernel

theorem test_crc8_check_value :
    crc8 [0x31#8, 0x32#8, 0x33#8, 0x34#8, 0x35#8, 0x36#8, 0x37#8, 0x38#8, 0x39#8] = 0xF4#8 := by
  decide +kernel

/-- R6: a head sequence 1 ahead modulo 65536 is newer, and 32768 apart copy A is. -/
theorem test_newer_copy :
    newerCopy (headWords 0x0000#16 5#16 16 1#16 []) (headWords 0xFFFF#16 5#16 16 1#16 []) = some .a ∧
    newerCopy (headWords 0x8000#16 5#16 16 1#16 []) (headWords 0x0000#16 5#16 16 1#16 []) = some .a ∧
    newerCopy (headWords 7#16 5#16 16 1#16 []) (headWords 8#16 5#16 16 1#16 []) = some .b := by
  decide +kernel

/-! ## One-step tests -/

/-- R125, R128: a write that a GUARD entry decides is refused with its record and cause. -/
theorem test_arrive_guarded_write :
    let t := after (.hostAccessArrive (byteAddr 2) .write true true 5#16) offState
    t.host.nBerr = false ∧ t.host.rdy = true ∧ t.records.queue.length = 1 ∧
    t.causes.latches = 0x0020#16 := by decide +kernel

/-- R126: with neither lane a read returns FFFFh. -/
theorem test_arrive_no_lane :
    (after (.hostAccessArrive (byteAddr 2) .read false false 5#16) offState).host.dout
      = some 0xFFFF#16 := by decide +kernel

/-- R136: a forwarded write reaches its enabled lane alone. -/
theorem test_arrive_forwarded_write :
    (after (.hostAccessArrive (byteAddr 0x800) .write true false 0x1234#16) offState).memory
      = [(0x800, 0x34#8)] := by decide +kernel

/-- R47: a journaled write of an unsaved granule enters SAVING with prior level 0. -/
theorem test_arrive_save :
    (after (.hostAccessArrive (byteAddr 0x4B04) .write true true 1#16) armed).engine.mode
      = .saving { granule := 600#15, prior := 0, done := 0, data := [] } := by decide +kernel

/-- R125: after the answer the end of the cycle returns nBERR high. -/
theorem test_cycle_end_releases :
    (after .hostCycleEnd { armed with host := { armed.host with cycle := true, nBerr := false } }).host
      = armed.host := by decide +kernel

/-- R136: a completed forward of a read returns its halfword, FFh on a lane not enabled. -/
theorem test_forward_read :
    let s := { offState with memory := stored (byteAddr 0x800) [0xABCD#16] }
    (after .forwardComplete
      (after (.hostAccessArrive (byteAddr 0x800) .read false true 0#16) s)).host.dout
      = some 0xABFF#16 := by decide +kernel

/-- R134: an expired hold refuses the access with HOLD_EXPIRED and no record. -/
theorem test_hold_expires :
    let s := holding (access .write (byteAddr 0x4B04) (.held .engine) (some 16#8)) (inMode (.marking 1#16 0))
    (after .holdTimerExpire s).causes.latches = 0x0010#16 ∧
    (after .holdTimerExpire s).host.nBerr = false := by decide +kernel

/-- R60: the seventh access of a mark pushes its checkpoint. -/
theorem test_mark_kind_write :
    (after .engineAccessComplete (serving (.marking 0x0A01#16 6) 0#16)).engine.stack
      = [baseCheckpoint, { position := 1, label := 0x0A01#16, number := 2 }] := by decide +kernel

/-- R76, R86: an undo whose slot has another epoch stops in HALTED with UNDO_FAULT and HALTED. -/
theorem test_undo_bad_slot :
    let u : UndoWork := { target := 0, drop := false, walkDepth := 1, disarm := false,
                          step := .header [kindSave, 2#16, 0#16, 600#16, 0#16] }
    let s := { serving (.undoing u) 0#16 with engine := { (inMode (.undoing u)).engine with fill := 1 } }
    (after .engineAccessComplete s).engine.mode = .halted ∧
    (after .engineAccessComplete s).causes.latches = 0x0003#16 := by decide +kernel

/-- R31, R53: the sweep of BREAKING clears every level and ends in BROKEN. -/
theorem test_clear_sweep_breaking :
    let s := { inMode (.breaking .sweep) with touch := [(600, 1)] }
    (after .clearSweepComplete s).touch = [] ∧
    (after .clearSweepComplete s).engine.mode = .broken := by decide +kernel

/-- R30: the sweep of a RELEASE at depth 2 turns level 2 to 1. -/
theorem test_relabel_sweep :
    let s := { inMode (.releasing .sweep) with
      touch := [(5, 1), (600, 2)]
      engine := { (inMode (.releasing .sweep)).engine with
        fill := 2, stack := [baseCheckpoint, { position := 1, label := 9#16, number := 2 }] } }
    (after .relabelSweepComplete s).touch = [(5, 1), (600, 1)] := by decide +kernel

/-- R67: an edge while an operation runs becomes pending, and a second one is merged. -/
theorem test_mark_edge_pending :
    let s := { inMode (.recording { copy := .b, words := [], done := 0 }) with
      engine := { (inMode (.recording { copy := .b, words := [], done := 0 })).engine with
        markEnable := true } }
    (after .markReqEdge s).engine.markPending = true ∧
    (after .markReqEdge (after (.requestLineFall .mark) (after .markReqEdge s))).causes.latches
      = 0x0080#16 := by decide +kernel

/-- R73, R81: an UNDO_REQ edge with nothing above the base ends at once with UNDO_END. -/
theorem test_undo_edge_empty :
    let s := { armed with engine := { armed.engine with undoEnable := true } }
    (after .undoReqEdge s).engine.mode = .active ∧
    (after .undoReqEdge s).causes.latches = 0x0200#16 := by decide +kernel

/-- R173, R175: a short frame and an unknown code latch LINK_ERROR. -/
theorem test_link_error :
    (after .linkShortFrame armed).causes.latches = 0x8000#16 ∧
    (after (.unknownCommand 0x07#8 0#8) armed).causes.latches = 0x8000#16 := by decide +kernel

/-- R186: a low nSS at the release is ignored until it rises. -/
theorem test_nss_ignored :
    let s := after (.resetRelease 0#4 false false false true) { armed with power := .reset }
    s.link.ignoring = true ∧ s.sdo 0 = none ∧
    (after .nssRiseAfterRelease s).link = State.reset.link := by decide +kernel

/-- R42, R107: JSEL 4 places the journal base at 256 KiB and begins a resume. -/
theorem test_release_jsel :
    let s := after (.resetRelease 4#4 true false false false) { armed with power := .reset }
    s.engine.base = 256 ∧ s.engine.mode = .scanning true 1 (.heads []) := by decide +kernel

/-- R37: the assertion of nRST clears the pending flags and the map. -/
theorem test_reset_assert :
    let s := { armed with touch := [(600, 1)] }
    (after .resetAssert s).touch = [] ∧ (after .resetAssert s).host.nBerr = false := by decide +kernel

/-- R3: the loss of supply keeps the memory. -/
theorem test_supply_loss :
    (after .supplyLoss { armed with memory := [(3, 7#8)] }).memory = [(3, 7#8)] := by decide +kernel

/-- R160, R161: of two causes of one level the lower number is fetched; a clear names its latches. -/
theorem test_fetch_and_clear :
    let s := { armed with causes := { armed.causes with
      latches := 0x0600#16, levels := Vector.replicate 16 3 } }
    (after (sent .fetchCause) s).causes.latches = 0x0400#16 ∧
    (after (sent (.clearCauses 0x0400#16)) s).causes.latches = 0x0200#16 := by decide +kernel

/-- R158: a level above 7 is out of range, a level above the threshold asserts ALERT. -/
theorem test_cause_level :
    let s := { armed with causes := { armed.causes with latches := 0x0001#16 } }
    (after (sent (.setCauseLevel 0#8 8#8)) s).causes = s.causes ∧
    (after (sent (.setCauseLevel 0#8 7#8)) s).causes.alert = true ∧
    (after (sent (.setThreshold 7#8)) s).causes.alert = false := by decide +kernel

/-- R180: a policy change while an operation runs is answered BUSY, and the hold limit is still written. -/
theorem test_options_busy :
    let s := inMode (.marking 1#16 0)
    (after (sent (.setOptions 3#8 40#8 1#8 0#16 0#8)) s).host.holdLimit = 40#8 ∧
    (after (sent (.setOptions 3#8 40#8 1#8 0#16 0#8)) s).engine.policy = .refuse ∧
    ((after (sent (.setOptions 3#8 40#8 1#8 0#16 0#8)) s).link.frame.bind Frame.response).map
      (List.take 2) = some [0xA2#8, 40#8] := by decide +kernel

/-- R150: an area that does not fit is out of range; one that fits is placed. -/
theorem test_set_area :
    (after (sent (.setArea 1023#16 32#16)) offState).engine.slots = 16 ∧
    (after (sent (.setArea 1023#16 16#16)) offState).engine.base = 1023 := by decide +kernel

/-- R43: ARM with a JOURNAL entry over the area is answered RANGE and stays in OFF; otherwise it begins. -/
theorem test_arm :
    (after (sent .arm) offState).engine.mode = .arming (.readHeads []) ∧
    (after (sent .arm) { offState with
      engine := { offState.engine with base := 142 }
      regions := { offState.regions with areaBase := 142 } }).engine.mode = .off := by decide +kernel

/-- R59, R62: MARK begins at depth 1; RELEASE of the base is answered DEPTH. -/
theorem test_mark_and_release :
    (after (sent (.mark 7#16)) armed).engine.mode = .marking 7#16 0 ∧
    ((after (sent .release) armed).link.frame.bind Frame.response).map (List.take 1)
      = some [0xA5#8] := by decide +kernel

/-- R93, R99, R103: COMMIT from epoch 65535 takes epoch 1; DISARM begins with its sweep. -/
theorem test_commit_and_disarm :
    (after (sent .commit) { armed with engine := { armed.engine with epoch := 0xFFFF#16 } }).engine.mode
      = .committing 1#16 .sweep ∧
    (after (sent .disarm) armed).engine.mode = .disarming .sweep := by decide +kernel

/-- R108, R35: RESUME is taken in OFF, and answered STATE in ACTIVE. -/
theorem test_resume :
    (after (sent (.resume 1#8)) offState).engine.mode = .scanning true 1 (.heads []) ∧
    (after (sent (.resume 1#8)) armed).engine.mode = .active := by decide +kernel

/-- R147, R55: WRITE_REGION in ACTIVE with fill 0 begins RECORDING with the changed table. -/
theorem test_write_region :
    (after (sent (.writeRegion 0#8 4#8 20#16 1#16)) armed).engine.mode.name = .recording ∧
    (after (sent (.writeRegion 0#8 4#8 20#16 1#16)) armed).regions.entries.get 0
      = { mode := .guardWatch, base := 20, length := 1 } := by decide +kernel

/-- R167, R191: a read of an empty queue reports and clears the overrun flag. -/
theorem test_read_record_empty :
    let s := { armed with records := { armed.records with overrun := true } }
    (after (sent .readRecord) s).records.overrun = false ∧
    ((after (sent .readRecord) s).link.frame.bind Frame.response).map (List.take 2)
      = some [0xA0#8, 0x40#8] := by decide +kernel

/-- R154, R191: entry 1 as it stands. -/
theorem test_read_region :
    ((after (sent (.readRegion 1#8)) armed).link.frame.bind Frame.response).map (List.take 6)
      = some [0xA0#8, 1#8, 0#8, 16#8, 0#8, 128#8] := by decide +kernel

/-- R190: the first ten bytes of STATUS. -/
theorem test_status :
    ((after (sent .status) armed).link.frame.bind Frame.response).map (List.take 11)
      = some [0xA0#8, 2#8, 1#8, 0#8, 0#8, 0#8, 16#8, 1#8, 0#8, 0#8, 1#8] := by decide +kernel

/-- R183, R185: a read series that is not complete is answered BUSY, and its read is discarded. -/
theorem test_read_slot_busy :
    let s := after .linkReadStatusDue (after (sent (.readSlot 0#16)) armed)
    (s.link.frame.bind Frame.response).map (List.take 1) = some [0xA2#8] ∧
    s.port.busy.map PortBusy.discard = some true := by decide +kernel

/-- R184: READ_HEAD of copy B begins at base + 64; R185: the next halfword follows a completion. -/
theorem test_read_head :
    ((after (sent (.readHead 1#8)) armed).port.busy.map fun b => b.access.addr)
      = some (byteAddr (256 * 1024 + 64)) ∧
    ((after .linkReadComplete (after (sent (.readHead 1#8)) armed)).port.busy.map fun b => b.access.addr)
      = some (byteAddr (256 * 1024 + 66)) := by decide +kernel

/-- R176, R185: the rise of nSS ends the series, and SDO is no longer driven. -/
theorem test_frame_cut :
    (after .linkFrameCut (after (sent (.readHead 1#8)) armed)).link.reader = none ∧
    (after .linkFrameCut (after (sent (.readHead 1#8)) armed)).sdo 0 = none := by decide +kernel

/-- R169, R189: in a frame of ARM answered ACCEPTED, A1h stands on SDO from bit 16 on, after two bytes of zeros, and
ones follow the fourth byte. -/
theorem test_sdo_of_arm :
    ([15, 16, 17, 18, 22, 23, 32].map (after (sent .arm) offState).sdo)
      = [some false, some true, some false, some true, some false, some true, some true] ∧
    offState.sdo 0 = none := by decide +kernel

/-- R169: A1h clocked in after a fall of nSS with SCK high, and with SCK low. -/
theorem test_wire_byte : ∀ sck : Bool,
    let w : Wire := { selected := false, sck := sck, sampled := [true], shown := 3 }
    let levels := [true, false, true, false, false, false, false, true].flatMap
      fun b => [(false, b), (true, b)]
    ((w.setNss true).clockAll levels).bytes = [0xA1#8] := by decide

/-- R62: RELEASE at depth 2 begins with its sweep; R72: an option above 1 is out of range. -/
theorem test_release_and_undo :
    let s := { armed with engine := { armed.engine with
      fill := 1, stack := [baseCheckpoint, { position := 1, label := 9#16, number := 2 }] } }
    (after (sent .release) s).engine.mode = .releasing .sweep ∧
    (after (sent (.undo 2#8)) s).engine.mode = .active ∧
    (after (sent (.undo 1#8)) s).engine.mode.name = .undoing := by decide +kernel

/-! ## Witnesses

Each theorem shows states and operands that meet the hypotheses of the statement it names, clause by clause. -/

theorem witness_StepRunsFrontCommand : State.reset.pending = [] := rfl

/-- For CommandsComplete: both kinds of term; and states in which the events named cannot occur. -/
theorem witness_CommandsComplete :
    (Instr.unknownCommand 0xFF#8 0#8).wellFormed = true ∧
    (Instr.unknownCommand 0x31#8 0#8).wellFormed = false ∧
    armed.power = .running ∧ armed.host.cycle = false ∧ armed.host.access = none ∧
    armed.port.busy.map PortBusy.who ≠ some .engine ∧ armed.engine.mode ≠ .breaking .sweep ∧
    armed.engine.mode ≠ .releasing .sweep ∧ armed.link.reader = none ∧
    (∀ p : Power, { armed with power := p }.power = p) ∧
    (holding (access .read 0#19 .forwarding none) armed).host.access ≠ none :=
  ⟨by decide, by decide, rfl, rfl, rfl, by decide, by decide, by decide, rfl, fun _ => rfl, by decide⟩

theorem witness_FrameBytesRoundTrip :
    (Instr.unknownCommand 0x00#8 0#8).wellFormed = true ∧
    frameBytes (.unknownCommand 0x00#8 0#8) ≠ [] ∧
    decodeFrame (frameBytes (.readHead 1#8 9#8)) = some (.readHead 1#8 9#8) := by decide

/-- For FrameLengthsAreFixed and the response clause of CrcParameters: a frame answered at once, and one that
waits for its series. -/
theorem witness_FrameLengthsAreFixed :
    0x00#8 ∉ knownCodes ∧ 0x51#8 ∉ knownCodes ∧ armed.power = .running ∧ armed.link.ignoring = false ∧
    exec (sent .status) armed = .next (after (sent .status) armed) ∧
    ((after (sent .status) armed).link.frame.bind Frame.response).isSome = true ∧
    exec (sent (.readSlot 0#16)) armed = .next (after (sent (.readSlot 0#16)) armed) :=
  ⟨by decide, by decide, rfl, rfl, rfl, by decide +kernel, rfl⟩

theorem witness_CrcParameters :
    codeOf (commandBytes (.arm 0#8)) ∈ knownCodes ∧ crcByte (.arm 0#8) = some 0#8 ∧
    (0#8 : Byte) ≠ crc8 (commandBytes (.arm 0#8)) ∧
    exec (.arm 0#8) armed = .next (after (.arm 0#8) armed) :=
  ⟨by decide, rfl, by decide +kernel, rfl⟩

theorem witness_NewerCopyAndNewEpoch : armed.engine.slots ≠ 0 := by decide

/-- For every StepKeeps statement: a journaled write arrives in ACTIVE at a state that meets all the
invariants. -/
def arriving : State :=
  { armed with pending := [.hostAccessArrive (byteAddr 0x4B04) .write true true 1#16] }

theorem witness_StepKeeps :
    MemoryForm arriving ∧ AlertLaw arriving ∧ LevelLaw arriving ∧ BlockLaws arriving ∧
    StackLaws arriving ∧ PendingLaw arriving ∧ TouchLaw arriving ∧ EpochLaw arriving ∧
    OverlapLaw arriving ∧ PortLaw arriving ∧ ShieldLaw arriving ∧ SavedLaw arriving := by
  refine ⟨?_, ?_, ?_, ?_, ?_, ?_, ?_, ?_, ?_, ?_, ?_, ?_⟩
  all_goals decide +kernel

theorem witness_StepKeeps_next :
    step arriving = .next (after (.hostAccessArrive (byteAddr 0x4B04) .write true true 1#16) armed) := rfl

/-- For the three statements about what reaches the memory: a journaled write of a saved granule. -/
def savedWrite : State :=
  { armed with
    touch := [(600, 1)]
    engine := { armed.engine with fill := 1 }
    pending := [.hostAccessArrive (byteAddr 0x4B04) .write true true 0x1234#16] }

theorem witness_HostWrites :
    PortLaw savedWrite ∧ BlockLaws savedWrite ∧ StackLaws savedWrite ∧ ShieldLaw savedWrite ∧
    SavedLaw savedWrite ∧ MemoryForm savedWrite := by
  refine ⟨?_, ?_, ?_, ?_, ?_, ?_⟩
  all_goals decide +kernel

theorem witness_HostWrites_change :
    let t := after (.hostAccessArrive (byteAddr 0x4B04) .write true true 0x1234#16)
      { savedWrite with pending := [] }
    hostWriteUnderWay t = true ∧ Memory.read t.memory 0x4B05 ≠ Memory.read savedWrite.memory 0x4B05 ∧
    t.engine.mode ≠ .off ∧ t.engine.mode ≠ .broken ∧
    journaled t (BitVec.ofNat 19 (0x4B05 / 2)) = true := by decide +kernel

theorem witness_HostWrites_next :
    step savedWrite = .next (after (.hostAccessArrive (byteAddr 0x4B04) .write true true 0x1234#16)
      { savedWrite with pending := [] }) := rfl

/-- A busy port; an idle one with none waiting; all three requesters waiting after each last one served. -/
theorem witness_PortGrantsInRotation :
    (serving .active 0#16).port.busy ≠ none ∧
    (armed.port.busy = none ∧ armed.port.forward = none ∧ armed.port.engine = none ∧
      armed.port.link = none) ∧
    ∀ last : Requester, last = .forward ∨ last = .engine ∨ last = .link →
      let p : Port := { busy := none, last := last, forward := some (readAt 0#19),
                        engine := some (readAt 1#19), link := some (readAt 2#19) }
      p.next.isSome = true := by
  refine ⟨by decide, by decide, fun last _ => ?_⟩
  cases last <;> decide

/-- For ResetAssertAndSupplyLoss and ResetReleaseCompletes. -/
theorem witness_Resets :
    armed.power ≠ .reset ∧ armed.power ≠ .unpowered ∧
    { armed with power := .reset }.power ≠ .running ∧
    { armed with power := .unpowered }.power ≠ .running ∧
    writeUnderWay { armed with port := { armed.port with
      busy := some { who := .engine, access := writeAt 5#19 1#16, seen := 0#16, discard := false } } } 11
      = true := by decide

theorem witness_UnclassifiedArrivalsAndCycleEnd :
    Ready armed ∧
    (let s := holding (access .read 0#19 .forwarding none) armed
     s.host.cycle = true ∧ s.power = .running ∧
       s.host.access = some (access .read 0#19 .forwarding none)) ∧
    (let s := { armed with host := { armed.host with cycle := true } }
     s.host.cycle = true ∧ s.power = .running ∧ s.host.access = none) ∧
    (let s := { armed with power := .reset, host := { armed.host with cycle := true } }
     s.host.cycle = true ∧ s.power = .reset) := by decide

/-- The head phase; the first and the last halfword of the area, and the one after it, in ACTIVE; the first and
the last halfword of entry 1, and the one after it; an address in the area in OFF. -/
theorem witness_Classification :
    (inMode (.scanning false 1 (.heads []))).engine.mode.headPhase = true ∧
    armed.engine.mode.headPhase = false ∧ armed.engine.mode ≠ .off ∧
    classify armed (byteAddr 262144) .write = .refuse (some 8) ∧
    classify armed (byteAddr (262144 + 830)) .write = .refuse (some 8) ∧
    classify armed (byteAddr (262144 + 832)) .write = .forward none ∧
    classify armed (byteAddr 16384) .write = .lookup ∧
    classify armed (byteAddr 147454) .write = .lookup ∧
    classify armed (byteAddr 147456) .write = .forward none ∧
    classify offState (byteAddr 262144) .write = .forward none := by decide +kernel

/-- Each treatment at a ready port. -/
theorem witness_ClassifiedArrivals :
    Ready armed ∧ Ready (inMode (.marking 1#16 0)) ∧ Ready (inMode .halted) ∧
    classify armed (byteAddr 0x400) .write = .forward (some 3) ∧
    classify (inMode (.marking 1#16 0)) (byteAddr 0x4B04) .write = .hold ∧
    classify (inMode .halted) (byteAddr 0x4B04) .read = .refuse none ∧
    classify armed (byteAddr 0) .write = .refuse (some 2) ∧
    classify armed (byteAddr 0x4B04) .write = .lookup := by decide +kernel

/-- A saved granule; the last free slot; a full journal under each policy. -/
theorem witness_JournaledWriteLookup :
    Ready savedWrite ∧ classify savedWrite (byteAddr 0x4B04) .write = .lookup ∧
    TouchMap.level savedWrite.touch 600 = savedWrite.engine.stack.length ∧
    TouchMap.level armed.touch 600 ≠ armed.engine.stack.length ∧
    (let s := { armed with engine := { armed.engine with fill := 15 } }
     Ready s ∧ classify s (byteAddr 0x4B04) .write = .lookup ∧ s.engine.fill < s.engine.slots) ∧
    ∀ p : Policy, p = .refuse ∨ p = .breakJournal →
      let s := { armed with engine := { armed.engine with fill := 16, policy := p } }
      Ready s ∧ classify s (byteAddr 0x4B04) .write = .lookup ∧ s.engine.slots ≤ s.engine.fill := by
  refine ⟨by decide, by decide +kernel, by decide, by decide, by decide +kernel, fun p _ => ?_⟩
  cases p <;> decide +kernel

theorem witness_ForwardCompletes :
    let s := after (.hostAccessArrive (byteAddr 0x400) .read true true 0#16) offState
    s.power = .running ∧ (∃ b ∈ s.port.busy, b.who = .forward) ∧ s.host.access.isSome = true := by
  refine ⟨by decide +kernel, ?_, by decide +kernel⟩
  exact ⟨{ who := .forward, access := readAt (byteAddr 0x400), seen := 0#16, discard := false }, rfl, rfl⟩

theorem witness_HoldTimerExpires : ∀ t : Option Byte,
    let s := holding (access .write (byteAddr 0x4B04) (.held .engine) t) (inMode (.marking 1#16 0))
    s.power = .running ∧ s.host.access
      = some (access .write (byteAddr 0x4B04) (.held .engine) t) := fun _ => ⟨rfl, rfl⟩

theorem witness_AccessClassifiedAfresh : ∀ st : Stage,
    (holding (access .write 0#19 st none) (inMode .broken)).host.access
      = some (access .write 0#19 st none) ∧ (inMode .broken).engine.mode = .broken :=
  fun _ => ⟨rfl, rfl⟩

/-- A state with pending flags, a fill and a stack of given depth, no access waiting. -/
def resting (mark undo : Bool) (fill depth : Nat) : State :=
  { armed with engine := { armed.engine with
      markPending := mark, undoPending := undo, fill := fill
      stack := baseCheckpoint :: (List.range (depth - 1)).map fun i =>
        { position := i + 1, label := 7#16, number := i + 2 } } }

/-- The clauses of EndsOfOperations, and those of ResumeEnds on fill and the top checkpoint. -/
theorem witness_EndsOfOperations :
    (resting true true 2 2).engine.topPosition < (resting true true 2 2).engine.fill ∧
    (resting true true 1 2).engine.fill ≤ (resting true true 1 2).engine.topPosition ∧
    (resting true false 15 3).engine.stack.length < 4 ∧
    (resting true false 15 3).engine.fill < (resting true false 15 3).engine.slots ∧
    4 ≤ (resting true false 15 4).engine.stack.length ∧
    (resting true false 16 3).engine.slots ≤ (resting true false 16 3).engine.fill := by decide

/-- The held write of EndsOfOperations and of ResumeEnds, with no request pending, with a pending UNDO that walks and
with a pending MARK that passes. -/
theorem witness_HeldWrite :
    let a := access .write (byteAddr 0x4B04) (.held .engine) (some 16#8)
    (∀ (m u : Bool) (f d : Nat), (holding a (resting m u f d)).host.access = some a ∧
      (holding a (resting m u f d)).regions.areaBase = 256 ∧
      (holding a (resting m u f d)).regions.areaSlots = 16) ∧
    journaled (holding a (resting false false 1 1)) a.addr = true ∧
    (resting true true 2 2).engine.topPosition < (resting true true 2 2).engine.fill ∧
    (resting true false 15 3).engine.fill < (resting true false 15 3).engine.slots :=
  ⟨fun _ _ _ _ => ⟨rfl, rfl, rfl⟩, by decide +kernel, by decide, by decide⟩

/-- The highest area of 16 slots with its last slot: for the statements about the engine's accesses. -/
theorem witness_EngineAccesses :
    let e := { (resting false false 15 2).engine with base := 1023 }
    e.base * 1024 + 128 + 44 * e.slots ≤ 1048576 ∧ e.fill < e.slots ∧ 1 ≤ e.fill ∧ e.base ≤ 1023 ∧
    (∃ c ∈ e.stack.getLast?, 1 ≤ c.position) := by
  refine ⟨by decide, by decide, by decide, by decide, ?_⟩
  exact ⟨{ position := 1, label := 7#16, number := 2 }, rfl, by decide⟩

/-- For the release of EntryWriteSequences, with the journal full. -/
theorem witness_ReleaseAccess :
    let e := (resting false false 16 2).engine
    e.base * 1024 + 128 + 44 * e.slots ≤ 1048576 ∧ e.fill = e.slots ∧
    (∃ c ∈ e.stack.getLast?, 1 ≤ c.position) :=
  ⟨by decide, rfl, { position := 1, label := 7#16, number := 2 }, rfl, by decide⟩

/-- For every statement about ENGINE_ACCESS_COMPLETE: in any mode an access of the engine may be in progress and
have found any halfword. -/
theorem witness_EngineAccess (m : Mode) (v : Half) :
    EngineAccess (serving m v) v ∧ (serving m v).engine.mode = m := ⟨⟨rfl, rfl, rfl⟩, rfl⟩

/-- For SaveAdvances: with and without the write that the save serves, over a map in its form. -/
theorem witness_SaveAdvances :
    let w : SaveWork := { granule := 600#15, prior := 0, done := 38, data := [] }
    let a := access .write (byteAddr 0x4B04) (.held .save) (some 16#8)
    (holding a (serving (.saving w) 0#16)).host.access = some a ∧
    (serving (.saving w) 0#16).host.access = none ∧ TouchLaw (serving (.saving w) 0#16) := by
  decide +kernel

/-- For UndoJudgesSlots: a SAVE header, a RELEASED slot at walk depth 1, the top marker, and the data of a SAVE
slot that pass their tests, under epoch 1 and at the index below fill. -/
theorem witness_UndoJudgesSlots :
    let c := markerCheck 1#16 0#16 5#16 2#16
    let data := List.replicate 16 0x00FF#16
    let h : SlotHeader := { kind := 0x3C01#16, epoch := 1#16, sequence := 0#16, subject := 32767#16,
                            level := 3#16, check := saveCheck 1#16 0#16 32767#16 3#16 data }
    c = markerCheck 1#16 0#16 5#16 2#16 ∧ highByte (2#16 : Half) = 0#8 ∧
    1 + 1 ≤ (lowByte (2#16 : Half)).toNat ∧ (lowByte (2#16 : Half)).toNat ≤ 4 ∧
    (0#16 : Half).toNat = (resting false false 1 2).engine.fill - 1 ∧
    h.check = saveCheck h.epoch h.sequence h.subject h.level data ∧ highByte h.level = 0#8 ∧
    (lowByte h.level).toNat ≤ 3 ∧ h.subject.toNat ≤ 32767 ∧
    armed.engine.base * 1024 + 128 + 44 * armed.engine.slots ≤ h.subject.toNat * 32 := by
  decide +kernel

/-- For UndoRemovesSlots: a SAVE above the target over a map in its form. -/
theorem witness_UndoRemovesSlots :
    let h : SlotHeader := { kind := 0x3C01#16, epoch := 1#16, sequence := 0#16, subject := 600#16,
                            level := 0#16, check := 0#16 }
    let u : UndoWork := { target := 0, drop := false, walkDepth := 1, disarm := false, step := .void h }
    let s := { serving (.undoing u) 0#16 with
      touch := [(600, 1)], engine := { (serving (.undoing u) 0#16).engine with fill := 1 } }
    EngineAccess s 0#16 ∧ s.engine.mode = .undoing u ∧ TouchLaw s ∧ u.target < s.engine.fill := by
  decide +kernel

/-- For ScanTakesSlots: the fields of a MARKER at running level 1 and of a RELEASED slot pass their tests. -/
theorem witness_ScanTakesSlots :
    let s := serving (.scanning false 1 (.header [0x3C02#16, 1#16, 0#16, 9#16, 2#16]))
      (markerCheck 1#16 0#16 9#16 2#16)
    (1#16 : Half) = s.engine.epoch ∧ (0#16 : Half).toNat = s.engine.fill ∧
    1 < 4 ∧ (lowByte (2#16 : Half)).toNat = 1 + 1 ∧ 1 + 1 ≤ (lowByte (2#16 : Half)).toNat ∧
    saveCheck 1#16 0#16 600#16 0#16 (List.replicate 16 7#16)
      = saveCheck 1#16 0#16 600#16 0#16 (List.replicate 15 7#16 ++ [7#16]) := by decide +kernel

/-- For ResumeHeadPhase and HeadRecordTests: a head record that is not rejected, and ones that are. -/
theorem witness_ResumeHeadPhase :
    let ws := headWords 1#16 1#16 16 1#16 armed.regions.entries.toList
    (∀ i : Fin 8, (headRegionOf ws i.val).isSome = true) ∧
    (List.replicate 63 0x4A55#16).length = 63 ∧ headOutcome 256 ws = .armed ∧
    headOutcome 1023 (headWords 1#16 1#16 17 1#16 armed.regions.entries.toList) = .armed ∧
    headOutcome 1023 (headWords 1#16 1#16 21 1#16 armed.regions.entries.toList) = .badHead ∧
    headOutcome 256 (headWords 1#16 1#16 15 1#16 armed.regions.entries.toList) = .badHead ∧
    headOutcome 142 ws = .badHead := by decide +kernel

/-- For SweepsComplete. -/
theorem witness_SweepsComplete :
    (∀ m : Mode, (inMode m).power = .running ∧ (inMode m).engine.mode = m) ∧
    TouchLaw (inMode (.releasing .sweep)) := ⟨fun _ => ⟨rfl, rfl⟩, by decide +kernel⟩

/-- For RequestLines: the states of the lines, the enables and the flags are free of one another. -/
theorem witness_RequestLines (markLine undoLine markOn undoOn markWaits undoWaits : Bool) (m : Mode) :
    let s := { armed with engine := { armed.engine with
      mode := m, markLine := markLine, undoLine := undoLine, markEnable := markOn, undoEnable := undoOn
      markPending := markWaits, undoPending := undoWaits } }
    s.power = .running ∧ s.engine.mode = m ∧ s.engine.markLine = markLine ∧
    s.engine.undoLine = undoLine ∧ s.engine.markEnable = markOn ∧ s.engine.undoEnable = undoOn ∧
    s.engine.markPending = markWaits ∧ s.engine.undoPending = undoWaits :=
  ⟨rfl, rfl, rfl, rfl, rfl, rfl, rfl, rfl⟩

/-- For the SDO and wire clauses of LinkFraming: an open frame, a frame not yet taken, the last bit of a response and
the first one past it, and a wire whose SCK is high. -/
theorem witness_LinkFraming_wire :
    let s := after (sent .arm) offState
    s.power = .running ∧ s.link.selected = true ∧ s.link.ignoring = false ∧
    (s.link.frame.map fun f => f.sdoBytes.length) = some 4 ∧ 31 / 8 = 3 ∧ 4 ≤ 32 / 8 ∧
    (let o := openFrame armed
     o.link.selected = true ∧ o.link.ignoring = false ∧ o.link.frame = none) ∧
    (let w : Wire := { selected := false, sck := true, sampled := [], shown := 0 }
     w.selected = false ∧ w.sck = true) := by decide +kernel

/-- For LinkFraming and CrcMismatchAnswersCheck. -/
theorem witness_LinkFraming :
    armed.power = .running ∧ armed.link.ignoring = false ∧ 0x07#8 ∉ knownCodes ∧
    { armed with power := .reset }.power ≠ .running ∧
    { armed with link := { armed.link with ignoring := true } }.link.ignoring = true ∧
    crcByte (.commit 0#8) = some 0#8 ∧ (0#8 : Byte) ≠ crc8 (commandBytes (.commit 0#8)) := by
  decide +kernel

/-- For LinkReaderBegins: the last slot, the first index past it, and the three selectors at the bound. -/
theorem witness_LinkReaderBegins :
    Taken (sent (.readSlot 15#16)) armed ∧ Taken (sent (.readSlot 16#16)) armed ∧
    armed.engine.base * 1024 + 128 + 44 * armed.engine.slots ≤ 1048576 ∧
    armed.engine.slots ≤ (16#16 : Half).toNat ∧ (15#16 : Half).toNat < armed.engine.slots ∧
    Taken (sent (.readHead 1#8)) armed ∧ Taken (sent (.readHead 2#8)) armed ∧
    armed.engine.base ≤ 1023 := by decide +kernel

/-- For LinkReaderEnds: a read in progress, one to be discarded, and a series with and without all its reads. -/
theorem witness_LinkReaderEnds : ∀ (discard : Bool) (got : List Half),
    let r : Reader := { start := 0#19, total := 22, got := got }
    let b : PortBusy := { who := .link, access := readAt 0#19, seen := 5#16, discard := discard }
    let f : Frame := { code := 0x30#8, response := none }
    let s := { armed with port := { armed.port with busy := some b }
                          link := { selected := true, ignoring := false, frame := some f, reader := some r } }
    s.power = .running ∧ s.port.busy = some b ∧ b.who = .link ∧ b.discard = discard ∧
    s.link.reader = some r ∧ s.link.frame = some f ∧ f.response = none :=
  fun _ _ => ⟨rfl, rfl, rfl, rfl, rfl, rfl, rfl⟩

/-- For the statements about observation commands: each is taken. -/
theorem witness_ObservationTaken :
    Taken (sent .status) armed ∧ Taken (sent .fetchCause) armed ∧ Taken (sent (.clearCauses 0xFFFF#16)) armed ∧
    Taken (sent (.setCauseLevel 15#8 7#8)) armed ∧ Taken (sent (.setCauseLevel 16#8 7#8)) armed ∧
    Taken (sent (.setCauseLevel 15#8 8#8)) armed ∧ Taken (sent (.setThreshold 7#8)) armed ∧
    Taken (sent (.setThreshold 8#8)) armed ∧ Taken (sent .readRecord) armed ∧
    Taken (sent (.readRegion 7#8)) armed ∧ Taken (sent (.readRegion 8#8)) armed := by decide +kernel

/-- For CausesFetchedAndCleared: no cause counts, and cause 9 is the one preferred. -/
theorem witness_CausesFetchedAndCleared :
    (∀ n : Fin 16, ¬ (armed.causes.latches.getLsbD n.val = true ∧
      armed.causes.threshold < armed.causes.levels.get n)) ∧
    let u : CauseUnit := { latches := 0x0600#16, levels := Vector.replicate 16 3, threshold := 0, alert := true }
    (u.latches.getLsbD 9 = true ∧ u.threshold < u.levels.get 9) ∧
    ∀ m : Fin 16, u.latches.getLsbD m.val = true ∧ u.threshold < u.levels.get m →
      u.levels.get m < u.levels.get 9 ∨ (u.levels.get m = u.levels.get 9 ∧ 9 ≤ m) := by decide +kernel

/-- For SetOptionsTaken: a select and fields at and past their bounds, a change and none, busy and resting. -/
theorem witness_SetOptionsTaken :
    Taken (sent (.setOptions 15#8 0#8 1#8 8192#16 3#8)) armed ∧
    Taken (sent (.setOptions 15#8 0#8 0#8 8192#16 3#8)) armed ∧
    Taken (sent (.setOptions 16#8 0#8 1#8 0#16 0#8)) armed ∧
    Taken (sent (.setOptions 2#8 0#8 2#8 0#16 0#8)) armed ∧
    Taken (sent (.setOptions 4#8 0#8 0#8 8193#16 0#8)) armed ∧
    Taken (sent (.setOptions 8#8 0#8 0#8 0#16 4#8)) armed ∧
    Taken (sent (.setOptions 15#8 0#8 1#8 8192#16 3#8)) (inMode (.marking 1#16 0)) ∧
    armed.engine.highMark ≤ 8192 ∧ armed.engine.policy = .refuse ∧
    armed.engine.mode.name.resting = true ∧
    (inMode (.marking 1#16 0)).engine.mode.name.resting = false := by decide +kernel

theorem witness_StateTableOfCommands :
    (sent .arm).wellFormed = true ∧ Taken (sent .arm) armed ∧
    codeOf (commandBytes (sent .arm)) ∈ operationCodes ∧
    armed.engine.mode.name.resting = true ∧ takenIn 0x20#8 0 armed.engine.mode.name = false ∧
    (inMode (.marking 1#16 0)).engine.mode.name.resting = false ∧
    Taken (sent .arm) (inMode (.marking 1#16 0)) := by decide +kernel

/-- For ArmAndResumeTaken: an area that passes and one that does not; the options at the bound. -/
theorem witness_ArmAndResumeTaken :
    Taken (sent .arm) offState ∧ offState.engine.mode = .off ∧ BlockLaws offState ∧
    BlockLaws State.reset ∧ Taken (sent .arm) State.reset ∧ State.reset.engine.slots = 0 ∧
    Taken (sent (.resume 1#8)) offState ∧ Taken (sent (.resume 2#8)) offState := by decide +kernel

/-- For MarkReleaseUndoTaken: depth 4, a full journal, the last free slot; depth 1 and 2; the options at the
bound; fill at and above the top checkpoint. -/
theorem witness_MarkReleaseUndoTaken :
    (∀ (m u : Bool) (f d : Nat), (resting m u f d).engine.mode = .active) ∧
    Taken (sent (.mark 7#16)) (resting false false 15 4) ∧
    Taken (sent (.mark 7#16)) (resting false false 16 3) ∧
    Taken (sent (.mark 7#16)) (resting false false 15 3) ∧
    Taken (sent .release) (resting false false 0 1) ∧ Taken (sent .release) (resting false false 1 2) ∧
    Taken (sent (.undo 0#8)) (resting false false 1 2) ∧
    Taken (sent (.undo 0#8)) (resting false false 2 2) ∧
    Taken (sent (.undo 1#8)) (resting false false 1 1) ∧
    Taken (sent (.undo 1#8)) (resting false false 1 2) ∧
    Taken (sent (.undo 2#8)) (resting false false 1 2) := by
  refine ⟨fun _ _ _ _ => rfl, ?_⟩
  decide +kernel

theorem witness_CommitAndDisarm :
    let u : UndoWork := { target := 0, drop := false, walkDepth := 1, disarm := false, step := .header [] }
    Taken (sent .commit) armed ∧ Taken (sent .commit) (inMode .broken) ∧
    Taken (sent .disarm) (inMode .halted) ∧ Taken (sent .disarm) (inMode (.undoing u)) ∧
    Taken (sent .disarm) (serving (.undoing u) 0#16) ∧
    (inMode (.undoing u)).port.busy = none ∧
    (serving (.undoing u) 0#16).port.busy.map PortBusy.who = some .engine := by decide +kernel

/-- For SetAreaAndWriteRegion: the bounds of base and slot count, and of index, mode and span. -/
theorem witness_SetAreaAndWriteRegion :
    Taken (sent (.setArea 1023#16 16#16)) offState ∧ Taken (sent (.setArea 1024#16 16#16)) offState ∧
    Taken (sent (.setArea 0#16 15#16)) offState ∧ offState.engine.mode = .off ∧
    Taken (sent (.writeRegion 7#8 4#8 1023#16 1#16)) offState ∧
    regionOf 4 1023 1 = some { mode := .guardWatch, base := 1023, length := 1 } ∧
    Taken (sent (.writeRegion 8#8 4#8 1023#16 1#16)) offState ∧
    Taken (sent (.writeRegion 7#8 5#8 1023#16 1#16)) offState ∧ regionOf 5 1023 1 = none ∧
    regionOf 4 1023 2 = none ∧
    Taken (sent (.writeRegion 0#8 1#8 256#16 1#16)) armed ∧ armed.engine.fill = 0 ∧
    overlapsArea armed.regions.areaBase armed.regions.areaSlots
      { mode := .journal, base := 256, length := 1 } = true := by decide +kernel

/-- For JournaledWriteRun. -/
theorem witness_JournaledWriteRun :
    let s := { armed with pending := .hostAccessArrive (byteAddr 0x4B04) .write true true 1#16
      :: (List.replicate 39 .engineAccessComplete ++ .forwardComplete :: []) }
    Ready s ∧ PortEmpty s ∧ MemoryForm s ∧ BlockLaws s ∧ s.engine.markPending = false ∧
    s.engine.undoPending = false ∧ classify s (byteAddr 0x4B04) .write = .lookup ∧
    TouchMap.level s.touch ((byteAddr 0x4B04).toNat / 16) ≠ s.engine.stack.length ∧
    s.engine.fill < s.engine.slots ∧
    granuleMeetsArea s.engine.base s.engine.slots ((byteAddr 0x4B04).toNat / 16) = false := by
  decide +kernel

/-- A journal of one SAVE slot, of granule 600 with its level 0 before. -/
def oneSave : State :=
  let data := List.replicate 16 0xA55A#16
  { armed with
    engine := { armed.engine with fill := 1 }
    touch := [(600, 1)]
    memory := stored (byteAddr (262144 + 128)) ([0x3C01#16, 1#16, 0#16, 600#16, 0#16,
      saveCheck 1#16 0#16 600#16 0#16 data] ++ data) }

/-- For UndoRun. -/
theorem witness_UndoRun :
    let field := fun i : Nat =>
      readHalf oneSave.memory (BitVec.ofNat 19 ((262144 + 128) / 2 + i))
    let data := (List.range 16).map fun j => field (6 + j)
    Taken (sent (.undo 0#8)) oneSave ∧ oneSave.engine.mode = .active ∧ oneSave.host.access = none ∧
    PortEmpty oneSave ∧ MemoryForm oneSave ∧ BlockLaws oneSave ∧ StackLaws oneSave ∧
    oneSave.engine.fill = oneSave.engine.topPosition + 1 ∧
    field 0 = 0x3C01#16 ∧ field 1 = oneSave.engine.epoch ∧
    (field 2).toNat = oneSave.engine.topPosition ∧
    field 5 = saveCheck (field 1) (field 2) (field 3) (field 4) data ∧
    highByte (field 4) = 0#8 ∧ (lowByte (field 4)).toNat ≤ 3 ∧ (field 3).toNat ≤ 32767 ∧
    granuleMeetsArea oneSave.engine.base oneSave.engine.slots (field 3).toNat = false := by
  decide +kernel

end Sys2Proof.Tests
end

section
/-! SUPPORT. What an operation keeps of the memory, the touch map, the tables and the record queue: the relation
`Keeps`, shown once for each shared operation that changes none of them. -/

namespace Sys2Proof.Machine

open Sys2Proof.Safety

/-- The operation leaves memory, touch map, regions, area and high mark alone, keeps the record queue within its eight
places (R166), and keeps an undo's slot in progress one that can be written back (R77). -/
structure Keeps (s t : State) : Prop where
  memory : t.memory = s.memory
  touch : t.touch = s.touch
  regions : t.regions = s.regions
  base : t.engine.base = s.engine.base
  slots : t.engine.slots = s.engine.slots
  highMark : t.engine.highMark = s.engine.highMark
  records : s.records.queue.length ≤ 8 → t.records.queue.length ≤ 8
  restore : restoreFits s.engine.mode = true → restoreFits t.engine.mode = true

theorem Keeps.refl (s : State) : Keeps s s := ⟨rfl, rfl, rfl, rfl, rfl, rfl, id, id⟩

theorem Keeps.trans {s t u : State} (h : Keeps s t) (h' : Keeps t u) : Keeps s u where
  memory := h'.memory.trans h.memory
  touch := h'.touch.trans h.touch
  regions := h'.regions.trans h.regions
  base := h'.base.trans h.base
  slots := h'.slots.trans h.slots
  highMark := h'.highMark.trans h.highMark
  records := h'.records ∘ h.records
  restore := h'.restore ∘ h.restore

/-! ## Updates of single fields -/

section Updates
variable (s : State)

theorem setMode_keeps (m : Mode) (h : restoreFits s.engine.mode = true → restoreFits m = true) :
    Keeps s (setMode m s) := ⟨rfl, rfl, rfl, rfl, rfl, rfl, id, h⟩

theorem setFill_keeps (n : Nat) : Keeps s (setFill n s) := ⟨rfl, rfl, rfl, rfl, rfl, rfl, id, id⟩

theorem baseAlone_keeps : Keeps s (baseAlone s) := ⟨rfl, rfl, rfl, rfl, rfl, rfl, id, id⟩

theorem emptyJournal_keeps : Keeps s (emptyJournal s) := ⟨rfl, rfl, rfl, rfl, rfl, rfl, id, id⟩

theorem pushStack_keeps (p : Nat) (l : Half) : Keeps s (pushStack p l s) :=
  ⟨rfl, rfl, rfl, rfl, rfl, rfl, id, id⟩

theorem popStack_keeps : Keeps s (popStack s) := ⟨rfl, rfl, rfl, rfl, rfl, rfl, id, id⟩

theorem setMarkPending_keeps (b : Bool) : Keeps s (setMarkPending b s) :=
  ⟨rfl, rfl, rfl, rfl, rfl, rfl, id, id⟩

theorem setUndoPending_keeps (b : Bool) : Keeps s (setUndoPending b s) :=
  ⟨rfl, rfl, rfl, rfl, rfl, rfl, id, id⟩

theorem setMarkLine_keeps (b : Bool) : Keeps s (setMarkLine b s) :=
  ⟨rfl, rfl, rfl, rfl, rfl, rfl, id, id⟩

theorem setUndoLine_keeps (b : Bool) : Keeps s (setUndoLine b s) :=
  ⟨rfl, rfl, rfl, rfl, rfl, rfl, id, id⟩

theorem setUndoOutcome_keeps (o : UndoOutcome) : Keeps s (setUndoOutcome o s) :=
  ⟨rfl, rfl, rfl, rfl, rfl, rfl, id, id⟩

theorem setResume_keeps (o : ResumeOutcome) (r : StopReason) : Keeps s (setResume o r s) :=
  ⟨rfl, rfl, rfl, rfl, rfl, rfl, id, id⟩

theorem setEpoch_keeps (e : Half) : Keeps s (setEpoch e s) := ⟨rfl, rfl, rfl, rfl, rfl, rfl, id, id⟩

theorem setPolicy_keeps (p : Policy) : Keeps s (setPolicy p s) := ⟨rfl, rfl, rfl, rfl, rfl, rfl, id, id⟩

theorem headWritten_keeps (w : HeadWrite) : Keeps s (headWritten w s) :=
  ⟨rfl, rfl, rfl, rfl, rfl, rfl, id, id⟩

theorem takeHeadChoice_keeps (a b : List Half) : Keeps s (takeHeadChoice a b s) :=
  ⟨rfl, rfl, rfl, rfl, rfl, rfl, id, id⟩

theorem raise_keeps (c : Cause) : Keeps s (raise c s) := ⟨rfl, rfl, rfl, rfl, rfl, rfl, id, id⟩

theorem renew_keeps : Keeps s (renew s) := ⟨rfl, rfl, rfl, rfl, rfl, rfl, id, id⟩

theorem requestEngine_keeps : Keeps s (requestEngine s) := ⟨rfl, rfl, rfl, rfl, rfl, rfl, id, id⟩

theorem releasePort_keeps (w : Requester) : Keeps s (releasePort w s) :=
  ⟨rfl, rfl, rfl, rfl, rfl, rfl, id, id⟩

theorem withdrawForward_keeps : Keeps s (withdrawForward s) := ⟨rfl, rfl, rfl, rfl, rfl, rfl, id, id⟩

theorem requestForward_keeps (w : Option (Fin 8)) (a : HostAccess) : Keeps s (requestForward w a s) :=
  ⟨rfl, rfl, rfl, rfl, rfl, rfl, id, id⟩

theorem holdAccess_keeps (y : HoldFor) (a : HostAccess) : Keeps s (holdAccess y a s) :=
  ⟨rfl, rfl, rfl, rfl, rfl, rfl, id, id⟩

theorem answer_keeps (ok : Bool) (d : Option Half) (a : HostAccess) : Keeps s (answer ok d a s) :=
  ⟨rfl, rfl, rfl, rfl, rfl, rfl, id, id⟩

theorem answerRefused_keeps (a : HostAccess) : Keeps s (answerRefused a s) :=
  ⟨rfl, rfl, rfl, rfl, rfl, rfl, id, id⟩

theorem takeArrival_keeps (a : HostAccess) : Keeps s (takeArrival a s) :=
  ⟨rfl, rfl, rfl, rfl, rfl, rfl, id, id⟩

theorem setCycle_keeps (b : Bool) : Keeps s (setCycle b s) := ⟨rfl, rfl, rfl, rfl, rfl, rfl, id, id⟩

theorem respond_keeps (code : Byte) (st : Status) (data : List Byte) : Keeps s (respond code st data s) :=
  ⟨rfl, rfl, rfl, rfl, rfl, rfl, id, id⟩

theorem respondEmpty_keeps (code : Byte) (st : Status) : Keeps s (respondEmpty code st s) :=
  respond_keeps s _ _ _

/-- A state that differs in causes, host port, memory port, link, counter, queue or power alone. -/
theorem Keeps.of_blocks {s t : State} (he : t.engine = s.engine) (ht : t.touch = s.touch)
    (hr : t.regions = s.regions) (hq : t.records = s.records) (hm : t.memory = s.memory) : Keeps s t :=
  ⟨hm, ht, hr, by rw [he], by rw [he], by rw [he], by rw [hq]; exact id, by rw [he]; exact id⟩

theorem enterUndoing_keeps (drop : Bool) : Keeps s (enterUndoing drop s) :=
  ⟨rfl, rfl, rfl, rfl, rfl, rfl, id, fun _ => rfl⟩

theorem enterDisarming_keeps : Keeps s (enterDisarming s) := setMode_keeps s _ fun _ => rfl

theorem enterScanning_keeps (autoUndo : Bool) : Keeps s (enterScanning autoUndo s) :=
  ⟨rfl, rfl, rfl, rfl, rfl, rfl, id, fun _ => rfl⟩

/-- The frame before has ended and a new one is open (R169, R185). -/
theorem openFrame_keeps : Keeps s (openFrame s) := by
  rw [openFrame_eq]
  obtain ⟨_, he, ht, hr, _, _, hq, hm, _⟩ := frameBegun_frame s
  exact .of_blocks he ht hr hq hm

theorem closeFrame_keeps : Keeps s (closeFrame s) := by
  rw [closeFrame_eq]
  obtain ⟨_, he, ht, hr, _, _, hq, hm, _⟩ := frameEnded_frame s
  exact .of_blocks he ht hr hq hm

end Updates

/-! ## The treatments of a host access -/

/-- R166: a record is added to the queue only while it holds fewer than eight. -/
theorem handRecord_keeps (a : HostAccess) (d : Half) (i : Fin 9) (o : RecordOutcome) (s : State) :
    Keeps s (handRecord a d i o s) := by
  refine ⟨by simp, by simp, by simp, by simp, by simp, by simp, fun h => ?_, by simp⟩
  unfold handRecord
  dsimp only
  split
  · simpa using by omega
  · exact h

theorem refuseAccess_keeps (r : Option (Fin 9)) (a : HostAccess) (s : State) :
    Keeps s (refuseAccess r a s) := by
  unfold refuseAccess
  cases r with
  | none => exact (raise_keeps s _).trans (answerRefused_keeps _ a)
  | some i => exact (handRecord_keeps a _ i _ s).trans ((raise_keeps _ _).trans (answerRefused_keeps _ a))

theorem lookupWrite_keeps (a : HostAccess) (s : State) : Keeps s (lookupWrite a s) := by
  unfold lookupWrite
  dsimp only
  split
  · exact requestForward_keeps s none a
  · split
    · exact (holdAccess_keeps s .save a).trans (setMode_keeps _ _ fun _ => rfl)
    · split
      · exact (raise_keeps s _).trans (answerRefused_keeps _ a)
      · exact (holdAccess_keeps s .breakEnd a).trans (setMode_keeps _ _ fun _ => rfl)

theorem treat_keeps (t : Treatment) (a : HostAccess) (s : State) : Keeps s (treat t a s) := by
  cases t with
  | forward w => exact requestForward_keeps s w a
  | hold => exact holdAccess_keeps s .engine a
  | lookup => exact lookupWrite_keeps a s
  | refuse r => exact refuseAccess_keeps r a s

theorem resolveHeld_keeps (s : State) : Keeps s (resolveHeld s) := by
  unfold resolveHeld
  split
  · exact .refl s
  · split
    · exact treat_keeps _ _ s
    · split
      · exact requestForward_keeps s none _
      · exact .refl s
    all_goals exact .refl s

theorem reclassifyWaiting_keeps (s : State) : Keeps s (reclassifyWaiting s) := by
  unfold reclassifyWaiting
  split
  · exact .refl s
  · split
    · exact (withdrawForward_keeps s).trans (treat_keeps _ _ _)
    all_goals exact .refl s

/-! ## The ends and beginnings of operations -/

theorem refusePending_keeps (s : State) : Keeps s (refusePending s) := by
  unfold refusePending
  split
  · exact (setUndoPending_keeps s _).trans ((setMarkPending_keeps _ _).trans (raise_keeps _ _))
  · exact .refl s

/-- R36, R70: an operation that ends in OFF, BROKEN or HALTED. -/
theorem endResting_keeps (m : Mode) (s : State) (h : restoreFits m = true) :
    Keeps s (resolveHeld (refusePending (setMode m s))) :=
  (setMode_keeps s m fun _ => h).trans ((refusePending_keeps _).trans (resolveHeld_keeps _))

theorem endInOff_keeps (s : State) : Keeps s (endInOff s) :=
  (emptyJournal_keeps s).trans (endResting_keeps .off _ rfl)

theorem endInBroken_keeps (s : State) : Keeps s (endInBroken s) :=
  (emptyJournal_keeps s).trans ((setMode_keeps _ .broken fun _ => rfl).trans
    ((raise_keeps _ _).trans ((refusePending_keeps _).trans (resolveHeld_keeps _))))

theorem beginMark_keeps (label : Half) (s : State) : Keeps s (beginMark label s) :=
  (setMode_keeps s _ fun _ => rfl).trans (reclassifyWaiting_keeps _)

theorem refuseMarkRequest_keeps (t : MarkTest) (s : State) : Keeps s (refuseMarkRequest t s) := by
  cases t with
  | depth => exact raise_keeps s _
  | full => exact (raise_keeps s _).trans (raise_keeps _ _)
  | pass => exact .refl s

theorem undoNormal_keeps (s : State) : Keeps s (undoNormal s) :=
  (setUndoOutcome_keeps s _).trans ((setMode_keeps _ _ fun _ => rfl).trans (raise_keeps _ _))

theorem restActive_keeps (s : State) : Keeps s (restActive s) := by
  unfold restActive
  dsimp only
  split
  · refine (setMarkPending_keeps s false).trans ?_
    split
    · exact (beginMark_keeps _ _).trans (resolveHeld_keeps _)
    · exact (refuseMarkRequest_keeps _ _).trans (resolveHeld_keeps _)
    · exact (refuseMarkRequest_keeps _ _).trans (resolveHeld_keeps _)
  · exact resolveHeld_keeps s

theorem enterActive_keeps (s : State) : Keeps s (enterActive s) := by
  unfold enterActive
  refine (setMode_keeps s .active fun _ => rfl).trans ?_
  dsimp only
  split
  · refine ((setUndoPending_keeps _ false).trans
      ((enterUndoing_keeps _ false).trans (reclassifyWaiting_keeps _))).trans ?_
    split
    · exact (undoNormal_keeps _).trans (restActive_keeps _)
    · exact resolveHeld_keeps _
  · exact restActive_keeps _

theorem beginUndo_keeps (drop : Bool) (s : State) : Keeps s (beginUndo drop s) := by
  unfold beginUndo
  refine ((enterUndoing_keeps s drop).trans (reclassifyWaiting_keeps _)).trans ?_
  dsimp only
  split
  · exact (undoNormal_keeps _).trans (enterActive_keeps _)
  · exact .refl _

theorem undoAborted_keeps (s : State) : Keeps s (undoAborted s) :=
  (setUndoOutcome_keeps s _).trans ((raise_keeps _ _).trans
    ((enterDisarming_keeps _).trans (resolveHeld_keeps _)))

theorem undoBad_keeps (u : UndoWork) (s : State) : Keeps s (undoBad u s) := by
  unfold undoBad
  refine ((setUndoOutcome_keeps s .fault).trans (raise_keeps _ .undoFault)).trans ?_
  dsimp only
  split
  · exact (enterDisarming_keeps _).trans (resolveHeld_keeps _)
  · exact endResting_keeps .halted _ rfl

theorem fromBroken_keeps (s : State) : Keeps s (fromBroken s) := by
  unfold fromBroken
  split
  · exact baseAlone_keeps s
  · exact .refl s

theorem beginArm_keeps (s : State) : Keeps s (beginArm s) :=
  (baseAlone_keeps s).trans ((setMode_keeps _ _ fun _ => rfl).trans (reclassifyWaiting_keeps _))

theorem beginCommit_keeps (s : State) : Keeps s (beginCommit s) :=
  (fromBroken_keeps s).trans ((setMode_keeps _ _ fun _ => rfl).trans (reclassifyWaiting_keeps _))

theorem beginDisarm_keeps (s : State) : Keeps s (beginDisarm s) :=
  (fromBroken_keeps s).trans ((enterDisarming_keeps _).trans (reclassifyWaiting_keeps _))

theorem beginRelease_keeps (s : State) : Keeps s (beginRelease s) :=
  (setMode_keeps s _ fun _ => rfl).trans (reclassifyWaiting_keeps _)

theorem beginResume_keeps (autoUndo : Bool) (s : State) : Keeps s (beginResume autoUndo s) :=
  (enterScanning_keeps s autoUndo).trans (reclassifyWaiting_keeps _)

theorem beginRecording_keeps (s : State) : Keeps s (beginRecording s) :=
  (setMode_keeps s _ fun _ => rfl).trans (reclassifyWaiting_keeps _)

theorem buildEnd_keeps (epoch : Half) (w : HeadWrite) (s : State) : Keeps s (buildEnd epoch w s) :=
  (headWritten_keeps s w).trans ((setEpoch_keeps _ epoch).trans ((baseAlone_keeps _).trans
    ((raise_keeps _ _).trans (enterActive_keeps _))))

theorem saveWritten_keeps (s : State) : Keeps s (saveWritten s) := by
  unfold saveWritten
  split
  · exact enterActive_keeps s
  · split
    · exact requestForward_keeps s none _
    · exact enterActive_keeps s

theorem savingServed_keeps (s : State) : Keeps s (savingServed s) := by
  unfold savingServed
  split
  · split
    · exact enterActive_keeps s
    · exact .refl s
  · exact .refl s

theorem resumeEnd_keeps (autoUndo : Bool) (r : StopReason) (s : State) :
    Keeps s (resumeEnd autoUndo r s) := by
  unfold resumeEnd
  refine ((setResume_keeps s .resumed r).trans (raise_keeps _ .resumeEnd)).trans ?_
  dsimp only
  split
  · have walk (x : State) : Keeps x (if atTarget (enterUndoing false x)
        then enterActive (undoNormal (enterUndoing false x)) else resolveHeld (enterUndoing false x)) := by
      refine (enterUndoing_keeps x false).trans ?_
      split
      · exact (undoNormal_keeps _).trans (enterActive_keeps _)
      · exact resolveHeld_keeps _
    split
    · exact ((setUndoPending_keeps _ false).trans (raise_keeps _ .requestMerged)).trans (walk _)
    · exact walk _
  · exact enterActive_keeps _

theorem resumeOff_keeps (o : ResumeOutcome) (s : State) : Keeps s (resumeOff o s) :=
  (setResume_keeps s o _).trans ((raise_keeps _ _).trans (endInOff_keeps _))

theorem scanStop_keeps (autoUndo : Bool) (level : Nat) (r : StopReason) (s : State) :
    Keeps s (scanStop autoUndo level r s) := by
  unfold scanStop
  split
  · exact setMode_keeps s _ fun _ => rfl
  · exact resumeEnd_keeps autoUndo r s

theorem scanNext_keeps (autoUndo : Bool) (level : Nat) (s : State) : Keeps s (scanNext autoUndo level s) := by
  unfold scanNext
  split
  · exact setMode_keeps s _ fun _ => rfl
  · exact scanStop_keeps autoUndo level _ s

end Sys2Proof.Machine
end

section
/-! SUPPORT. What one command can do to the memory, the touch map, the tables and the queue, said once: `Effect` lists
the changes of the engine and the link, `Event` adds the grant that may follow, and `exec_event` shows that every
command but those of reset and supply makes one such event. -/

namespace Sys2Proof.Machine

open Sys2Proof.Safety

/-- R38, R57: depth is at most 4. -/
theorem depth_le_of_stackLaws {s : State} (h : StackLaws s) : s.engine.depth ≤ 4 := by
  obtain ⟨hrest, harmed, -⟩ := h
  unfold Engine.depth
  by_cases hm : s.engine.mode = .off ∨ s.engine.mode = .broken
  · simp [(hrest hm).2]
  · obtain ⟨-, h4, -⟩ := harmed (not_or.1 hm)
    exact h4

/-- R117: the running level of a scan is its depth. -/
theorem scanLevel_le_of_stackLaws {s : State} (h : StackLaws s) {a : Bool} {level : Nat} {step : ScanStep}
    (hm : s.engine.mode = .scanning a level step) : level ≤ 4 := by
  have hw : workFits s.engine = true := h.2.2
  have hl : level = s.engine.stack.length := by
    simp only [workFits, hm, Bool.and_eq_true, decide_eq_true_eq] at hw
    exact hw.1
  exact hl ▸ depth_le_of_stackLaws h

/-- What one command changes of the touch map, the area, the regions and the high mark: nothing, one granule's level
(R26, R78, R116), the whole map (R30, R31), or one of the tables within its ranges (R41, R112, R145, R150). -/
inductive Effect (s u : State) : Prop
  | keeps (h : Keeps s u)
  | level (g l : Nat) (fits : StackLaws s → TouchLaw s → g < 32768 ∧ l ≤ 4) (h : Keeps (setLevel g l s) u)
  | clear (h : Keeps (clearMap s) u)
  | relabel (d : Nat) (h : Keeps { s with touch := TouchMap.relabel s.touch d } u)
  | area (b n : Nat) (test : areaTest b n = true) (h : Keeps (setAreaValues b n s) u)
  | head (ws : List Half) (test : headOutcome s.engine.base ws ≠ .badHead) (h : Keeps (restoreHead ws s) u)
  | region (i : Fin 8) (r : Region) (fits : inRange r) (h : Keeps (setRegion i r s) u)
  | highMark (n : Nat) (fits : n ≤ 8192)
      (h : Keeps { s with engine := { s.engine with highMark := n } } u)

theorem Effect.trans_keeps {s u t : State} (h : Effect s u) (k : Keeps u t) : Effect s t := by
  cases h with
  | keeps h => exact .keeps (h.trans k)
  | level g l fits h => exact .level g l fits (h.trans k)
  | clear h => exact .clear (h.trans k)
  | relabel d h => exact .relabel d (h.trans k)
  | area b n test h => exact .area b n test (h.trans k)
  | head ws test h => exact .head ws test (h.trans k)
  | region i r fits h => exact .region i r fits (h.trans k)
  | highMark n fits h => exact .highMark n fits (h.trans k)

theorem Keeps.from_blocks {s t u : State} (h : Keeps t u) (he : t.engine = s.engine)
    (ht : t.touch = s.touch) (hr : t.regions = s.regions) (hq : t.records = s.records)
    (hm : t.memory = s.memory) : Keeps s u := (Keeps.of_blocks he ht hr hq hm).trans h

/-- An effect on a state that differs in power, causes, ports, link, counter or queue alone. -/
theorem Effect.from_blocks {s x u : State} (h : Effect x u) (he : x.engine = s.engine)
    (ht : x.touch = s.touch) (hr : x.regions = s.regions) (hq : x.records = s.records)
    (hm : x.memory = s.memory) : Effect s u := by
  cases h with
  | keeps h => exact .keeps (h.from_blocks he ht hr hq hm)
  | level g l fits h =>
    exact .level g l (by simpa [StackLaws, TouchLaw, he, ht] using fits)
      (h.from_blocks he (by simp [ht]) hr hq hm)
  | clear h => exact .clear (h.from_blocks he rfl hr hq hm)
  | relabel d h => exact .relabel d (h.from_blocks he (by simp [ht]) hr hq hm)
  | area b n test h => exact .area b n test (h.from_blocks (by simp [he]) ht (by simp [hr]) hq hm)
  | head ws test h =>
    exact .head ws (he ▸ test)
      (h.from_blocks (by simp [restoreHead, he]) ht (by simp [restoreHead, he, hr]) hq hm)
  | region i r fits h => exact .region i r fits (h.from_blocks he ht (by simp [hr]) hq hm)
  | highMark n fits h => exact .highMark n fits (h.from_blocks (by simp [he]) ht hr hq hm)

/-! ## The completion of an engine access -/

theorem advanceArming_keeps (v : Half) (step : ArmStep) (s : State) : Keeps s (advanceArming v step s) := by
  rcases step with got | ⟨epoch, _ | k | w⟩
  · simp only [advanceArming]
    split
    · exact setMode_keeps s _ fun _ => rfl
    · exact (takeHeadChoice_keeps s _ _).trans (setMode_keeps _ _ fun _ => rfl)
  · exact .refl s
  · exact setMode_keeps s _ fun _ => rfl
  · simp only [advanceArming]
    split
    · exact buildEnd_keeps epoch w s
    · exact setMode_keeps s _ fun _ => rfl

theorem advanceCommitting_keeps (epoch : Half) (step : BuildStep) (s : State) :
    Keeps s (advanceCommitting epoch step s) := by
  rcases step with _ | k | w
  · exact .refl s
  · exact setMode_keeps s _ fun _ => rfl
  · simp only [advanceCommitting]
    split
    · exact buildEnd_keeps epoch w s
    · exact setMode_keeps s _ fun _ => rfl

theorem advanceDisarming_keeps (step : CloseStep) (s : State) : Keeps s (advanceDisarming step s) := by
  rcases step with _ | w
  · exact .refl s
  · simp only [advanceDisarming]
    split
    · exact (headWritten_keeps s w).trans ((raise_keeps _ _).trans (endInOff_keeps _))
    · exact setMode_keeps s _ fun _ => rfl

theorem advanceRecording_keeps (w : HeadWrite) (s : State) : Keeps s (advanceRecording w s) := by
  unfold advanceRecording
  split
  · exact (headWritten_keeps s w).trans (enterActive_keeps _)
  · exact setMode_keeps s _ fun _ => rfl

theorem advanceBreaking_keeps (step : CloseStep) (s : State) : Keeps s (advanceBreaking step s) := by
  rcases step with _ | w
  · exact .refl s
  · simp only [advanceBreaking]
    split
    · exact (headWritten_keeps s w).trans (setMode_keeps _ _ fun _ => rfl)
    · exact setMode_keeps s _ fun _ => rfl

theorem advanceMarking_keeps (label : Half) (n : Nat) (s : State) : Keeps s (advanceMarking label n s) := by
  unfold advanceMarking
  split
  · exact (setFill_keeps s _).trans ((pushStack_keeps _ _ _).trans
      ((raise_keeps _ _).trans (enterActive_keeps _)))
  · exact setMode_keeps s _ fun _ => rfl

theorem advanceReleasing_keeps (step : ReleaseStep) (s : State) : Keeps s (advanceReleasing step s) := by
  cases step with
  | sweep => exact .refl s
  | writeKind => exact (popStack_keeps s).trans ((raise_keeps _ _).trans (enterActive_keeps _))

/-- R26, R48: the kind write of a save brings the granule's level to depth. -/
theorem advanceSaving_effect (v : Half) (w : SaveWork) (s : State) : Effect s (advanceSaving v w s) := by
  unfold advanceSaving
  dsimp only
  split
  · refine .level w.granule.toNat s.engine.depth
      (fun hs _ => ⟨w.granule.isLt, depth_le_of_stackLaws hs⟩) ?_
    have filled : Keeps (setLevel w.granule.toNat s.engine.depth s)
        (setLevel w.granule.toNat s.engine.depth (setFill (s.engine.fill + 1) s)) := setFill_keeps _ _
    exact filled.trans ((setMode_keeps _ _ fun _ => rfl).trans (saveWritten_keeps _))
  · exact .keeps (setMode_keeps s _ fun _ => rfl)

theorem afterRemoval_keeps (u : UndoWork) (s : State) : Keeps s (afterRemoval u s) := by
  unfold afterRemoval
  split
  · exact undoAborted_keeps s
  · split
    · split
      · exact setMode_keeps s _ fun _ => rfl
      · exact (undoNormal_keeps s).trans (enterActive_keeps _)
    · exact setMode_keeps s _ fun _ => rfl

theorem judgeWalk_keeps (u : UndoWork) (h : SlotHeader) (s : State) : Keeps s (judgeWalk u h s) := by
  unfold judgeWalk
  split
  · split
    · exact setMode_keeps s _ fun _ => rfl
    · split
      · rename_i hk _
        exact setMode_keeps s _ fun _ => by simp [restoreFits, hk]
      · exact undoBad_keeps u s
  · exact undoBad_keeps u s

theorem judgeMarker_keeps (u : UndoWork) (h : SlotHeader) (s : State) : Keeps s (judgeMarker u h s) := by
  unfold judgeMarker
  split
  · rename_i ht
    have hk : h.kind = kindMarker := by
      have := ht.2
      simp only [markerTest, Bool.and_eq_true, beq_iff_eq] at this
      exact this.1.1.1
    exact setMode_keeps s _ fun _ => by simp [restoreFits, hk, kindMarker, kindSave]
  · exact undoBad_keeps u s

/-- R78: a removed SAVE slot gives its granule the level of its header, which its test has found at most 3. -/
theorem voidDone_effect (u : UndoWork) (h : SlotHeader) (s : State)
    (hm : s.engine.mode = .undoing { u with step := .void h }) : Effect s (voidDone u h s) := by
  unfold voidDone
  split
  · split
    · rename_i hk
      refine .level h.subject.toNat (levelByte h) (fun _ ht => ?_) ?_
      · have fits := ht.2.2
        simp only [restoreFits, hm, decide_eq_true_eq] at fits
        have := fits hk
        omega
      · have removed : Keeps (setLevel h.subject.toNat (levelByte h) s) (removeSave h s) :=
          ⟨rfl, rfl, rfl, rfl, rfl, rfl, id, id⟩
        exact removed.trans (afterRemoval_keeps u _)
    · exact .keeps ((setFill_keeps s _).trans (afterRemoval_keeps u _))
  · have removed : Keeps s (removeMarker s) := (setFill_keeps s _).trans (popStack_keeps _)
    split
    · exact .keeps (removed.trans (undoAborted_keeps _))
    · exact .keeps (removed.trans ((undoNormal_keeps _).trans (enterActive_keeps _)))

theorem advanceUndoing_effect (v : Half) (u : UndoWork) (s : State) (hm : s.engine.mode = .undoing u) :
    Effect s (advanceUndoing v u s) := by
  unfold advanceUndoing
  split
  · dsimp only
    split
    · exact .keeps (setMode_keeps s _ fun _ => rfl)
    · split
      · exact .keeps (judgeWalk_keeps u _ s)
      · exact .keeps (judgeMarker_keeps u _ s)
  · dsimp only
    split
    · exact .keeps (setMode_keeps s _ fun _ => rfl)
    · split
      · rename_i ht
        refine .keeps (setMode_keeps s _ fun _ => ?_)
        simp only [saveTest, Bool.and_eq_true, decide_eq_true_eq] at ht
        simp [restoreFits, ht]
      · exact .keeps (undoBad_keeps u s)
  · rename_i hstep
    have fits (hr : restoreFits s.engine.mode = true) := by
      simpa only [hm, restoreFits, hstep, decide_eq_true_eq] using hr
    split
    · exact .keeps (setMode_keeps s _ fun hr => by simp [restoreFits, fits hr])
    · exact .keeps (setMode_keeps s _ fun hr => by simp [restoreFits, fits hr])
  · rename_i h hstep
    exact voidDone_effect u h s (by rw [hm, ← hstep])

/-- R112: unless the newer valid copy is rejected, S, the region table and the epoch are restored from it. -/
theorem takeHead_keeps (autoUndo : Bool) (level : Nat) (ws : List Half) (s : State) :
    Keeps s (takeHead autoUndo level ws s) ∨
      headOutcome s.engine.base ws ≠ .badHead ∧ Keeps (restoreHead ws s) (takeHead autoUndo level ws s) := by
  unfold takeHead
  split
  · exact .inl (resumeOff_keeps _ s)
  · exact .inr ⟨by simp [*], resumeOff_keeps _ _⟩
  · exact .inr ⟨by simp [*],
      (setResume_keeps _ _ _).trans ((raise_keeps _ _).trans (endInBroken_keeps _))⟩
  · exact .inr ⟨by simp [*], (setMode_keeps _ _ fun _ => rfl).trans (resolveHeld_keeps _)⟩

theorem headPhaseEnd_effect (autoUndo : Bool) (level : Nat) (got : List Half) (s : State) :
    Effect s (headPhaseEnd autoUndo level got s) := by
  have chosen (ws : List Half) :
      Effect s (takeHead autoUndo level ws (takeHeadChoice (got.take 32) (got.drop 32) s)) := by
    rcases takeHead_keeps autoUndo level ws (takeHeadChoice (got.take 32) (got.drop 32) s) with h | ⟨ht, h⟩
    · exact .keeps ((takeHeadChoice_keeps s _ _).trans h)
    · have restored : Keeps (restoreHead ws s)
          (restoreHead ws (takeHeadChoice (got.take 32) (got.drop 32) s)) :=
        ⟨rfl, rfl, rfl, rfl, rfl, rfl, id, id⟩
      exact .head ws ht (restored.trans h)
  unfold headPhaseEnd
  dsimp only
  split
  · exact .keeps ((takeHeadChoice_keeps s _ _).trans (resumeOff_keeps _ _))
  · exact chosen _
  · exact chosen _

/-- R116: a valid SAVE accepted by the scan brings its granule to the running level. -/
theorem scanData_effect (autoUndo : Bool) (level : Nat) (h : SlotHeader) (data : List Half) (s : State)
    {step : ScanStep} (hm : s.engine.mode = .scanning autoUndo level step) :
    Effect s (scanData autoUndo level h data s) := by
  unfold scanData
  split
  · unfold acceptSave
    dsimp only
    split
    · refine .level h.subject.toNat level
        (fun hs _ => ⟨by omega, scanLevel_le_of_stackLaws hs hm⟩) ?_
      have filled : Keeps (setLevel h.subject.toNat level s)
          (setLevel h.subject.toNat level (setFill (s.engine.fill + 1) s)) := setFill_keeps _ _
      exact filled.trans (scanNext_keeps _ _ _)
    · exact .keeps ((setFill_keeps s _).trans (scanNext_keeps _ _ _))
  · exact .keeps (scanStop_keeps _ _ _ s)

theorem scanHeader_keeps (autoUndo : Bool) (level : Nat) (h : SlotHeader) (s : State) :
    Keeps s (scanHeader autoUndo level h s) := by
  unfold scanHeader
  split
  · exact scanStop_keeps _ _ _ s
  split
  · exact scanStop_keeps _ _ _ s
  split
  · exact setMode_keeps s _ fun _ => rfl
  split
  · exact scanStop_keeps _ _ _ s
  split
  · unfold scanMarker
    split
    · exact (setFill_keeps s _).trans ((pushStack_keeps _ _ _).trans (scanNext_keeps _ _ _))
    · exact scanStop_keeps _ _ _ s
  · unfold scanReleased
    split
    · exact (setFill_keeps s _).trans (scanNext_keeps _ _ _)
    · exact scanStop_keeps _ _ _ s

theorem scanKind_keeps (autoUndo : Bool) (level : Nat) (v : Half) (s : State) :
    Keeps s (scanKind autoUndo level v s) := by
  unfold scanKind
  split
  · exact scanStop_keeps _ _ _ s
  · split
    · exact setMode_keeps s _ fun _ => rfl
    · exact scanStop_keeps _ _ _ s

theorem advanceScanning_effect (v : Half) (autoUndo : Bool) (level : Nat) (step : ScanStep) (s : State)
    (hm : s.engine.mode = .scanning autoUndo level step) :
    Effect s (advanceScanning v autoUndo level step s) := by
  unfold advanceScanning
  split
  · dsimp only
    split
    · exact .keeps (setMode_keeps s _ fun _ => rfl)
    · exact headPhaseEnd_effect _ _ _ s
  · exact .keeps (scanKind_keeps _ _ _ s)
  · dsimp only
    split
    · exact .keeps (setMode_keeps s _ fun _ => rfl)
    · exact .keeps (scanHeader_keeps _ _ _ s)
  · dsimp only
    split
    · exact .keeps (setMode_keeps s _ fun _ => rfl)
    · exact scanData_effect _ _ _ _ s hm
  · split
    · exact .keeps (setMode_keeps s _ fun _ => rfl)
    · exact .keeps (resumeEnd_keeps _ _ s)

/-- R139: what the completion of an engine access changes, by the engine's state. -/
theorem advance_effect (v : Half) (s : State) : Effect s (advance v s) := by
  unfold advance
  split
  · exact .keeps (.refl s)
  · exact .keeps (advanceArming_keeps v _ s)
  · exact .keeps (.refl s)
  · exact advanceSaving_effect v _ s
  · exact .keeps (advanceMarking_keeps _ _ s)
  · exact .keeps (advanceReleasing_keeps _ s)
  · exact advanceUndoing_effect v _ s ‹_›
  · exact .keeps (advanceCommitting_keeps _ _ s)
  · exact .keeps (advanceDisarming_keeps _ s)
  · exact .keeps (advanceRecording_keeps _ s)
  · exact .keeps (advanceBreaking_keeps _ s)
  · exact .keeps (.refl s)
  · exact .keeps (.refl s)
  · exact advanceScanning_effect v _ _ _ s ‹_›

/-! ## Events -/

/-- One event: an effect, and a grant of the memory port that may close it (R140). -/
def Event (s t : State) : Prop := ∃ u, Effect s u ∧ (t = u ∨ t = grant u)

theorem Effect.event {s t : State} (h : Effect s t) : Event s t := ⟨t, h, .inl rfl⟩

theorem Keeps.event {s t : State} (h : Keeps s t) : Event s t := (Effect.keeps h).event

theorem Effect.grant {s u : State} (h : Effect s u) : Event s (grant u) := ⟨u, h, .inr rfl⟩

theorem Effect.settle {s u : State} (h : Effect s u) : Event s (settle u) :=
  (h.trans_keeps ((renew_keeps u).trans (requestEngine_keeps _))).grant

theorem Event.from_blocks {s x t : State} (h : Event x t) (he : x.engine = s.engine)
    (ht : x.touch = s.touch) (hr : x.regions = s.regions) (hq : x.records = s.records)
    (hm : x.memory = s.memory) : Event s t := by
  obtain ⟨u, hu, htu⟩ := h
  exact ⟨u, hu.from_blocks he ht hr hq hm, htu⟩

/-! ## The link's commands -/

/-- R172: a frame makes the event of the command it carries, or answers and changes nothing else. -/
theorem takeFrame_event (bytes : List Byte) (crc : Byte) (act : State → State) (s : State)
    (h : ∀ x, Event x (act x)) : Event s (takeFrame bytes crc act s) := by
  unfold takeFrame
  split
  · dsimp only
    split
    · obtain ⟨_, he, ht, hr, _, _, hq, hm, _⟩ := frameBegun_frame s
      rw [openFrame_eq]
      exact (h _).from_blocks he ht hr hq hm
    · exact ((openFrame_keeps s).trans ((raise_keeps _ _).trans (respondEmpty_keeps _ _ _))).event
  · exact (Keeps.refl s).event

theorem gated_event (code : Byte) (taken : StateName → Bool) (act : State → State) (s : State)
    (h : Event s (act s)) : Event s (gated code taken act s) := by
  unfold gated
  split
  · exact (respond_keeps s _ _ _).event
  · exact h

/-- A command that begins an operation (R35). -/
theorem accepted_event (code : Byte) (begins : State → State) (s : State) (h : Keeps s (begins s)) :
    Event s (accepted code begins s) :=
  (Effect.keeps (h.trans (respond_keeps _ _ _ _))).settle

theorem clearLatches_keeps (mask : BitVec 16) (s : State) : Keeps s (clearLatches mask s) :=
  .of_blocks rfl rfl rfl rfl rfl

theorem takeFetch_keeps (s : State) : Keeps s (takeFetch s) := by
  unfold takeFetch
  split
  · exact respond_keeps s _ _ _
  · exact (clearLatches_keeps _ s).trans (respond_keeps _ _ _ _)

theorem takeCauseLevel_keeps (cause level : Byte) (s : State) : Keeps s (takeCauseLevel cause level s) := by
  unfold takeCauseLevel
  split
  · split
    · exact .of_blocks rfl rfl rfl rfl rfl
    · exact respond_keeps s _ _ _
  · exact respond_keeps s _ _ _

theorem takeThreshold_keeps (threshold : Byte) (s : State) : Keeps s (takeThreshold threshold s) := by
  unfold takeThreshold
  split
  · exact .of_blocks rfl rfl rfl rfl rfl
  · exact respond_keeps s _ _ _

/-- R167: a record is removed. -/
theorem takeReadRecord_keeps (s : State) : Keeps s (takeReadRecord s) := by
  refine ⟨rfl, rfl, rfl, rfl, rfl, rfl, fun h => ?_, id⟩
  simp only [takeReadRecord, respond_records, RecordQueue.pop, List.length_tail]
  omega

theorem takeReadRegion_keeps (index : Byte) (s : State) : Keeps s (takeReadRegion index s) := by
  unfold takeReadRegion
  split
  · exact respond_keeps s _ _ _
  · exact respondEmpty_keeps s _ _

/-- R41, R180: a high mark that SET OPTIONS writes has passed its range test. -/
theorem takeOptions_effect (select holdLimit policy : Byte) (highMark : Half) (enables : Byte) (s : State) :
    Effect s (takeOptions select holdLimit policy highMark enables s) := by
  have written (ht : optionsInRange select policy highMark enables = true) :
      Effect s (writeOptions select holdLimit highMark enables s) := by
    by_cases h2 : optionBit select 2 = true
    · refine .highMark highMark.toNat ?_ ⟨rfl, rfl, rfl, rfl, rfl, ?_, id, id⟩
      · simp only [optionsInRange, h2, Bool.and_eq_true, Bool.or_eq_true, decide_eq_true_eq] at ht
        simpa using ht.1.2
      · simp [writeOptions, h2]
    · exact .keeps ⟨rfl, rfl, rfl, rfl, rfl, by simp [writeOptions, h2], id, id⟩
  unfold takeOptions
  split
  · exact .keeps (respond_keeps s _ _ _)
  · rename_i ht
    have ht := not_not.1 ht
    dsimp only
    split
    · split
      · exact (written ht).trans_keeps ((setPolicy_keeps _ _).trans (respond_keeps _ _ _ _))
      · exact (written ht).trans_keeps (respond_keeps _ _ _ _)
    · exact (written ht).trans_keeps (respond_keeps _ _ _ _)

theorem beginSeries_event (code : Byte) (start : HalfAddr) (n : Nat) (s : State) :
    Event s (beginSeries code start n s) := by
  refine Effect.grant ?_
  exact .keeps (.of_blocks rfl rfl rfl rfl rfl)

theorem takeReadSlot_event (index : Half) (s : State) : Event s (takeReadSlot index s) := by
  unfold takeReadSlot
  split
  · exact beginSeries_event _ _ _ s
  · exact (respondEmpty_keeps s _ _).event

theorem takeReadHead_event (copy : Byte) (s : State) : Event s (takeReadHead copy s) := by
  unfold takeReadHead
  split
  · exact beginSeries_event _ _ _ s
  · split
    · exact beginSeries_event _ _ _ s
    · exact (respondEmpty_keeps s _ _).event

theorem takeArm_event (s : State) : Event s (takeArm s) := by
  refine gated_event _ _ _ s ?_
  split
  · exact accepted_event _ _ s (beginArm_keeps s)
  · exact (respond_keeps s _ _ _).event

theorem disarmUndo_event (u : UndoWork) (s : State) (hm : s.engine.mode = .undoing u) :
    Event s (disarmUndo u s) := by
  unfold disarmUndo
  split
  · exact (respond_keeps s _ _ _).event
  · split
    · exact ((setMode_keeps s _ fun h => by rw [hm] at h; exact h).trans (respond_keeps _ _ _ _)).event
    · exact accepted_event _ _ s (undoAborted_keeps s)

theorem takeDisarm_event (s : State) : Event s (takeDisarm s) := by
  unfold takeDisarm
  split
  · exact disarmUndo_event _ s ‹_›
  · exact gated_event _ _ _ s (accepted_event _ _ s (beginDisarm_keeps s))

theorem takeMark_event (label : Half) (s : State) : Event s (takeMark label s) := by
  refine gated_event _ _ _ s ?_
  unfold markTested
  split
  · exact (respond_keeps s _ _ _).event
  · exact ((raise_keeps s _).trans (respond_keeps _ _ _ _)).event
  · exact accepted_event _ _ s (beginMark_keeps label s)

theorem takeRelease_event (s : State) : Event s (takeRelease s) := by
  refine gated_event _ _ _ s ?_
  split
  · exact (respond_keeps s _ _ _).event
  · exact accepted_event _ _ s (beginRelease_keeps s)

theorem takeUndo_event (option : Byte) (s : State) : Event s (takeUndo option s) := by
  refine gated_event _ _ _ s ?_
  unfold undoTested
  split
  · exact accepted_event _ _ s (beginUndo_keeps false s)
  · split
    · split
      · exact (respond_keeps s _ _ _).event
      · exact accepted_event _ _ s (beginUndo_keeps true s)
    · exact (respond_keeps s _ _ _).event

theorem takeCommit_event (s : State) : Event s (takeCommit s) :=
  gated_event _ _ _ s (accepted_event _ _ s (beginCommit_keeps s))

theorem takeResume_event (option : Byte) (s : State) : Event s (takeResume option s) := by
  refine gated_event _ _ _ s ?_
  split
  · exact accepted_event _ _ s (beginResume_keeps _ s)
  · exact (respond_keeps s _ _ _).event

theorem takeSetArea_event (base slots : Half) (s : State) : Event s (takeSetArea base slots s) := by
  refine gated_event _ _ _ s ?_
  split
  · exact (Effect.area _ _ ‹_› ((reclassifyWaiting_keeps _).trans (respond_keeps _ _ _ _))).settle
  · exact (respond_keeps s _ _ _).event

/-- R145: an entry that passes the range tests is in range. -/
theorem inRange_of_regionOf {code base length : Nat} {r : Region} (h : regionOf code base length = some r) :
    inRange r := by
  unfold regionOf at h
  split at h
  · simp at h
  · split at h
    · simp only [Option.some.injEq] at h
      subst h
      assumption
    · simp at h

theorem takeWriteRegion_event (index mode : Byte) (base length : Half) (s : State) :
    Event s (takeWriteRegion index mode base length s) := by
  refine gated_event _ _ _ s ?_
  unfold regionTested
  split
  · split
    · exact (respond_keeps s _ _ _).event
    · rename_i hr
      split
      · exact (respond_keeps s _ _ _).event
      · unfold regionTaken
        split
        · exact (Effect.region _ _ (inRange_of_regionOf hr)
            ((reclassifyWaiting_keeps _).trans (respond_keeps _ _ _ _))).settle
        · exact (Effect.region _ _ (inRange_of_regionOf hr)
            ((beginRecording_keeps _).trans (respond_keeps _ _ _ _))).settle
  · exact (respond_keeps s _ _ _).event

/-! ## The other commands -/

/-- R31: in which states a clear sweep completes, and what it goes on to. -/
theorem clearSweep_eq_some {s t : State} (h : clearSweep s = some t) :
    (∃ m, restoreFits m = true ∧ t = setMode m (clearMap s)) ∨ t = endInBroken (clearMap s) := by
  cases hm : s.engine.mode with
  | arming step =>
    rcases step with got | ⟨epoch, _ | k | w⟩ <;> simp only [clearSweep, hm, reduceCtorEq] at h
    cases h
    exact .inl ⟨_, rfl, rfl⟩
  | committing epoch step =>
    rcases step with _ | k | w <;> simp only [clearSweep, hm, reduceCtorEq] at h
    cases h
    exact .inl ⟨_, rfl, rfl⟩
  | disarming step =>
    rcases step with _ | w <;> simp only [clearSweep, hm, reduceCtorEq] at h
    cases h
    exact .inl ⟨_, rfl, rfl⟩
  | breaking step =>
    rcases step with _ | w <;> simp only [clearSweep, hm, reduceCtorEq] at h
    cases h
    exact .inr rfl
  | _ => simp only [clearSweep, hm, reduceCtorEq] at h

theorem clearSweep_effect {s t : State} (h : clearSweep s = some t) : Effect s t := by
  rcases clearSweep_eq_some h with ⟨m, hm, rfl⟩ | rfl
  · exact .clear (setMode_keeps _ m fun _ => hm)
  · exact .clear (endInBroken_keeps _)

theorem relabelSweep_effect {s t : State} (h : relabelSweep s = some t) : Effect s t := by
  unfold relabelSweep at h
  split at h <;> simp only [Option.some.injEq, reduceCtorEq] at h
  subst h
  exact .relabel _ (setMode_keeps _ _ fun _ => rfl)

theorem arriveClassified_event (a : HostAccess) (s : State) : Event s (arriveClassified a s) :=
  (Effect.keeps ((takeArrival_keeps s a).trans (treat_keeps _ a _))).settle

theorem arrive_event (addr : HalfAddr) (st : Strobes) (l u : Bool) (d : Half) (s : State) :
    Event s (arrive addr st l u d s) := by
  have answered (t : State) (h : Keeps s t) : Event s t := h.event
  cases st with
  | both => exact answered _ (.of_blocks rfl rfl rfl rfl rfl)
  | read =>
    simp only [arrive]
    split
    · exact arriveClassified_event _ s
    · exact answered _ (.of_blocks rfl rfl rfl rfl rfl)
  | write =>
    simp only [arrive]
    split
    · exact arriveClassified_event _ s
    · exact answered _ (.of_blocks rfl rfl rfl rfl rfl)

theorem watchRecord_keeps (a : HostAccess) (d : Half) (s : State) : Keeps s (watchRecord a d s) := by
  unfold watchRecord
  split
  · exact .refl s
  · exact (handRecord_keeps a d _ _ s).trans (raise_keeps _ _)

theorem forwardDone_keeps (a : HostAccess) (v : Half) (s : State) : Keeps s (forwardDone a v s) :=
  (watchRecord_keeps a _ s).trans ((answer_keeps _ _ _ a).trans (savingServed_keeps _))

theorem expireHold_keeps (a : HostAccess) (s : State) : Keeps s (expireHold a s) :=
  (withdrawForward_keeps s).trans ((raise_keeps _ _).trans
    ((answerRefused_keeps _ a).trans (savingServed_keeps _)))

theorem markEdge_keeps (s : State) : Keeps s (markEdge s) := by
  unfold markEdge markRequest
  dsimp only
  split
  · split
    · exact beginMark_keeps _ s
    · exact refuseMarkRequest_keeps _ s
    · exact refuseMarkRequest_keeps _ s
  · split
    · exact raise_keeps s _
    · split
      · exact raise_keeps s _
      · exact setMarkPending_keeps s _

theorem undoEdge_keeps (s : State) : Keeps s (undoEdge s) := by
  unfold undoEdge
  dsimp only
  split
  · exact beginUndo_keeps false s
  · split
    · exact raise_keeps s _
    · split
      · exact raise_keeps s _
      · exact setUndoPending_keeps s _

/-- R183: a read of the series that has completed changes the link and its request. -/
theorem seriesRead_keeps (v : Half) (s : State) : Keeps s (seriesRead v s) := by
  unfold seriesRead
  split
  · exact .refl s
  · exact .of_blocks rfl rfl rfl rfl rfl

theorem endSeries_keeps (s : State) : Keeps s (endSeries s) := by
  unfold endSeries
  split
  · exact .refl s
  · exact .of_blocks rfl rfl rfl rfl rfl

theorem statusDue_keeps (code : Byte) (r : Reader) (s : State) : Keeps s (statusDue code r s) := by
  unfold statusDue
  refine (endSeries_keeps s).trans ?_
  dsimp only
  split
  · exact respond_keeps _ _ _ _
  · exact respondEmpty_keeps _ _ _

theorem answerUnknown_keeps (code : Byte) (s : State) : Keeps s (answerUnknown code s) := by
  unfold answerUnknown
  split
  · exact (openFrame_keeps s).trans ((raise_keeps _ _).trans (respond_keeps _ _ _ _))
  · exact .refl s

/-- The commands that are one event of the running part: all but those of reset and supply (R3, R37, R42). -/
def movesPower (c : Instr) : Bool :=
  match c with
  | .resetAssert => true
  | .resetRelease _ _ _ _ _ => true
  | .supplyLoss => true
  | _ => false

/-- Every command but those of reset and supply makes one event. -/
theorem exec_event {c : Instr} {s t : State} (hc : movesPower c = false) (h : exec c s = .next t) :
    Event s t := by
  have same : Event s s := (Keeps.refl s).event
  cases c with
  | resetAssert => cases hc
  | resetRelease jsel a m u n => cases hc
  | supplyLoss => cases hc
  | hostAccessArrive addr st l u d =>
    cases h
    split
    · exact same
    · split
      · exact (setCycle_keeps s true).event
      · exact (arrive_event addr st l u d (setCycle true s)).from_blocks rfl rfl rfl rfl rfl
  | hostCycleEnd =>
    cases h
    split
    · exact Keeps.event (.of_blocks rfl rfl rfl rfl rfl)
    · exact same
  | forwardComplete =>
    cases h
    split
    · split
      · exact (Effect.keeps ((releasePort_keeps s _).trans (forwardDone_keeps _ _ _))).settle
      · exact same
    · exact same
  | holdTimerExpire =>
    cases h
    split
    · split
      · exact (Effect.keeps (expireHold_keeps _ s)).settle
      · exact same
    · exact same
  | engineAccessComplete =>
    cases h
    split
    · split
      · refine Effect.settle ?_
        exact (advance_effect _ (releasePort .engine s)).from_blocks rfl rfl rfl rfl rfl
      · exact same
    · exact same
  | clearSweepComplete =>
    cases h
    split
    · split
      · exact (clearSweep_effect ‹_›).settle
      · exact same
    · exact same
  | relabelSweepComplete =>
    cases h
    split
    · split
      · exact (relabelSweep_effect ‹_›).settle
      · exact same
    · exact same
  | linkReadComplete =>
    cases h
    split
    · split
      · split
        · exact (Effect.keeps (releasePort_keeps s _)).grant
        · exact (Effect.keeps ((releasePort_keeps s _).trans (seriesRead_keeps _ _))).grant
      · exact same
    · exact same
  | linkReadStatusDue =>
    cases h
    split
    · split
      · exact (statusDue_keeps _ _ s).event
      · exact same
    · exact same
  | markReqEdge =>
    cases h
    split
    · exact same
    · dsimp only
      split
      · exact (Effect.keeps ((setMarkLine_keeps s _).trans (markEdge_keeps _))).settle
      · exact (setMarkLine_keeps s _).event
  | undoReqEdge =>
    cases h
    split
    · exact same
    · dsimp only
      split
      · exact (Effect.keeps ((setUndoLine_keeps s _).trans (undoEdge_keeps _))).settle
      · exact (setUndoLine_keeps s _).event
  | linkShortFrame =>
    cases h
    split
    · exact ((closeFrame_keeps s).trans (raise_keeps _ _)).event
    · exact same
  | linkFrameCut =>
    cases h
    split
    · exact (closeFrame_keeps s).event
    · exact same
  | unknownCommand code next =>
    simp only [exec, execUnknownCommand] at h
    split at h
    · cases h
    · cases h
      exact (answerUnknown_keeps code s).event
  | status crc =>
    cases h
    exact takeFrame_event _ _ _ s fun x => (respond_keeps x _ _ _).event
  | fetchCause crc =>
    cases h
    exact takeFrame_event _ _ _ s fun x => (takeFetch_keeps x).event
  | clearCauses mask crc =>
    cases h
    exact takeFrame_event _ _ _ s fun x =>
      ((clearLatches_keeps mask x).trans (respond_keeps _ _ _ _)).event
  | setCauseLevel cause level crc =>
    cases h
    exact takeFrame_event _ _ _ s fun x => (takeCauseLevel_keeps cause level x).event
  | setThreshold threshold crc =>
    cases h
    exact takeFrame_event _ _ _ s fun x => (takeThreshold_keeps threshold x).event
  | readRecord crc =>
    cases h
    exact takeFrame_event _ _ _ s fun x => (takeReadRecord_keeps x).event
  | writeRegion index mode base length crc =>
    cases h
    exact takeFrame_event _ _ _ s (takeWriteRegion_event index mode base length)
  | readRegion index crc =>
    cases h
    exact takeFrame_event _ _ _ s fun x => (takeReadRegion_keeps index x).event
  | setArea base slots crc =>
    cases h
    exact takeFrame_event _ _ _ s (takeSetArea_event base slots)
  | setOptions select holdLimit policy highMark enables crc =>
    cases h
    exact takeFrame_event _ _ _ s fun x =>
      (takeOptions_effect select holdLimit policy highMark enables x).event
  | arm crc =>
    cases h
    exact takeFrame_event _ _ _ s takeArm_event
  | disarm crc =>
    cases h
    exact takeFrame_event _ _ _ s takeDisarm_event
  | mark label crc =>
    cases h
    exact takeFrame_event _ _ _ s (takeMark_event label)
  | release crc =>
    cases h
    exact takeFrame_event _ _ _ s takeRelease_event
  | undo option crc =>
    cases h
    exact takeFrame_event _ _ _ s (takeUndo_event option)
  | commit crc =>
    cases h
    exact takeFrame_event _ _ _ s takeCommit_event
  | resume option crc =>
    cases h
    exact takeFrame_event _ _ _ s (takeResume_event option)
  | readSlot index crc =>
    cases h
    exact takeFrame_event _ _ _ s (takeReadSlot_event index)
  | readHead copy crc =>
    cases h
    exact takeFrame_event _ _ _ s (takeReadHead_event copy)
  | requestLineFall line =>
    cases h
    split
    · exact same
    · cases line with
      | mark => exact (setMarkLine_keeps s _).event
      | undo => exact (setUndoLine_keeps s _).event
  | nssRiseAfterRelease =>
    cases h
    split
    · exact Keeps.event (.of_blocks rfl rfl rfl rfl rfl)
    · exact same

end Sys2Proof.Machine
end

section
/-! PROOFS. The invariants of every step: the memory's form, the touch map (R21), and the ranges of the tables
(R1, R41, R145, R150, R166). -/

namespace Sys2Proof.Machine

open Sys2Proof.Safety

/-! ## Reset and supply -/

/-- R107: straps that are not zero place the area and begin a resume, in one event after the release. -/
theorem startStraps_event (jsel : BitVec 4) (autoUndo : Bool) (s : State) :
    Event s (startStraps jsel autoUndo s) := by
  unfold startStraps
  split
  · exact (Keeps.refl s).event
  · have test : areaTest (64 * jsel.toNat) 0 = true := by
      have := jsel.isLt
      simp [areaTest]
      omega
    exact (Effect.area _ _ test (enterScanning_keeps _ _)).settle

/-- An access cut short empties the port and may change the memory and the free values' counter, nothing else. -/
theorem cutAccess_eq (s : State) :
    cutAccess s = { s with port := Port.idle, memory := (cutAccess s).memory
                           freeCount := (cutAccess s).freeCount } := by
  unfold cutAccess
  split
  · rfl
  · split <;> rfl

@[simp] theorem cutAccess_frame (s : State) :
    (cutAccess s).power = s.power ∧ (cutAccess s).engine = s.engine ∧ (cutAccess s).touch = s.touch ∧
    (cutAccess s).regions = s.regions ∧ (cutAccess s).host = s.host ∧ (cutAccess s).causes = s.causes ∧
    (cutAccess s).records = s.records ∧ (cutAccess s).link = s.link ∧
    (cutAccess s).pending = s.pending ∧ (cutAccess s).port = Port.idle := by
  rw [cutAccess_eq]
  simp

/-- R3: of an access cut short only the two bytes of a write's halfword can change, and they go back to what the
access found there. -/
theorem read_cutAccess (s : State) (hm : MemoryForm s) (a : Nat) :
    Memory.read (cutAccess s).memory a = Memory.read s.memory a ∨
      ∃ b ∈ s.port.busy, b.access.data.isSome = true ∧ a / 2 = b.access.addr.toNat ∧
        Memory.read (cutAccess s).memory a = if a % 2 = 0 then lowByte b.seen else highByte b.seen := by
  unfold cutAccess
  cases hb : s.port.busy with
  | none => exact .inl rfl
  | some b =>
    cases hd : b.access.data with
    | none => exact .inl (by simp [hd])
    | some v =>
      simp only [hd]
      by_cases hl : Config.cutWriteLands s.freeCount = true
      · simp [hl]
      · simp only [hl, Bool.false_eq_true, if_false, read_writeHalf _ _ _ _ _ hm, bothLanes, true_and]
        by_cases hu : a = 2 * b.access.addr.toNat + 1
        · exact .inr ⟨b, rfl, by simp [hd], by omega, by simp [hu, Nat.add_mod]⟩
        · by_cases hl : a = 2 * b.access.addr.toNat
          · exact .inr ⟨b, rfl, by simp [hd], by omega, by simp [hl]⟩
          · simp [hu, hl]

/-- The states that the commands of reset and supply leave (R3, R37, R42). -/
theorem exec_power {c : Instr} {s t : State} (hc : movesPower c = true) (h : exec c s = .next t) :
    t = s ∨ (c = .resetAssert ∧ t = enterReset s) ∨
      (c = .supplyLoss ∧ t = { cutAccess s with power := .unpowered }) ∨
      ∃ j a m u n, t = startStraps j a (releaseValues m u n s) := by
  cases c with
  | resetAssert =>
    cases h
    cases s.power with
    | reset => exact .inl rfl
    | _ => exact .inr (.inl ⟨rfl, rfl⟩)
  | supplyLoss =>
    cases h
    cases s.power with
    | unpowered => exact .inl rfl
    | _ => exact .inr (.inr (.inl ⟨rfl, rfl⟩))
  | resetRelease j a m u n =>
    cases h
    cases s.power with
    | running => exact .inl rfl
    | _ => exact .inr (.inr (.inr ⟨j, a, m, u, n, rfl⟩))
  | _ => cases hc

/-! ## The memory -/

theorem Effect.memory {s u : State} (h : Effect s u) : u.memory = s.memory := by
  cases h with
  | keeps h => exact h.memory
  | level _ _ _ h => exact h.memory
  | clear h => exact h.memory
  | relabel _ h => exact h.memory
  | area _ _ _ h => exact h.memory
  | head _ _ h => exact h.memory
  | region _ _ _ h => exact h.memory
  | highMark _ _ h => exact h.memory

theorem Event.memoryForm {s t : State} (h : Event s t) (hs : MemoryForm s) : MemoryForm t := by
  obtain ⟨u, hu, ht⟩ := h
  have hm : MemoryForm u := by rw [MemoryForm, hu.memory]; exact hs
  rcases ht with rfl | rfl
  · exact hm
  · exact wf_grant u hm

/-- Every command keeps the memory in its canonical form. -/
theorem exec_memoryForm {c : Instr} {s t : State} (h : exec c s = .next t) (hs : MemoryForm s) :
    MemoryForm t := by
  cases hc : movesPower c with
  | false => exact (exec_event hc h).memoryForm hs
  | true =>
    rcases exec_power hc h with rfl | ⟨-, rfl⟩ | ⟨-, rfl⟩ | ⟨j, a, m, u, n, rfl⟩
    · exact hs
    · exact wf_cutAccess s hs
    · exact wf_cutAccess s hs
    · exact (startStraps_event j a _).memoryForm hs

/-- A grant changes a byte only in the halfword of the write that it grants (R136, R140). -/
theorem writeUnderWay_of_grant {u : State} {a : Nat} (hm : MemoryForm u)
    (h : Memory.read (grant u).memory a ≠ Memory.read u.memory a) : writeUnderWay (grant u) a = true := by
  unfold grant at h ⊢
  split at h
  · exact absurd rfl h
  · split at h
    · exact absurd rfl h
    · split at h
      · exact absurd rfl h
      · rename_i x _
        simp only [grantTo, performAccess] at h
        simp only [writeUnderWay, grantTo]
        cases hd : x.data with
        | none => simp [hd] at h
        | some v =>
          simp only [hd, read_writeHalf _ _ _ _ _ hm] at h
          simp only [Option.isSome_some, Bool.true_and, beq_iff_eq]
          grind

/-- R3, R136, R139: a byte changes in an event only where the port is then making a write. -/
theorem Event.writeUnderWay {s t : State} {a : Nat} (h : Event s t) (hs : MemoryForm s)
    (hr : Memory.read t.memory a ≠ Memory.read s.memory a) : writeUnderWay t a = true := by
  obtain ⟨u, hu, rfl | rfl⟩ := h
  · exact absurd (by rw [hu.memory]) hr
  · have hm : MemoryForm u := by rw [MemoryForm, hu.memory]; exact hs
    exact writeUnderWay_of_grant hm (by rwa [hu.memory])

/-- R3: a byte that an access cut short changes lay in a write in progress. -/
theorem writeUnderWay_of_cutAccess {s : State} {a : Nat} (hs : MemoryForm s)
    (hr : Memory.read (cutAccess s).memory a ≠ Memory.read s.memory a) : writeUnderWay s a = true := by
  rcases read_cutAccess s hs a with h | ⟨b, hb, hd, ha, -⟩
  · exact absurd h hr
  · simp only [Option.mem_def] at hb
    simp [Safety.writeUnderWay, hb, hd, ha]

/-! ## The touch map -/

theorem Keeps.touchLaw {s u : State} (h : Keeps s u) (hs : TouchLaw s) : TouchLaw u := by
  obtain ⟨hw, hl, hr⟩ := hs
  exact ⟨h.touch ▸ hw, h.touch ▸ hl, h.restore hr⟩

/-- R21: the empty map holds level 0 for every granule. -/
theorem touchLaw_of_empty {s : State} (ht : s.touch = []) (hr : restoreFits s.engine.mode = true) :
    TouchLaw s := by
  rw [TouchLaw, ht]
  exact ⟨⟨.nil, by simp⟩, by simp, hr⟩

theorem touchLaw_setLevel {s : State} {g l : Nat} (hg : g < 32768) (hl : l ≤ 4) (hs : TouchLaw s) :
    TouchLaw (setLevel g l s) := by
  obtain ⟨hw, h4, hr⟩ := hs
  refine ⟨TouchMap.wf_set _ _ _ hw hg, fun e he => ?_, hr⟩
  rcases TouchMap.mem_set _ _ _ _ he with he | rfl
  · exact h4 e he
  · exact hl

/-- R30: the relabel sweep lowers levels alone. -/
theorem touchLaw_relabel {s : State} (d : Nat) (hs : TouchLaw s) :
    TouchLaw { s with touch := TouchMap.relabel s.touch d } := by
  obtain ⟨hw, h4, hr⟩ := hs
  refine ⟨TouchMap.wf_relabel _ d hw, fun e he => ?_, hr⟩
  obtain ⟨x, hx, -, hl, -⟩ := (TouchMap.mem_relabel _ _ _).1 he
  have := h4 x hx
  grind

theorem Effect.touchLaw {s u : State} (h : Effect s u) (hst : StackLaws s) (hs : TouchLaw s) :
    TouchLaw u := by
  cases h with
  | keeps h => exact h.touchLaw hs
  | level g l fits h =>
    obtain ⟨hg, hl⟩ := fits hst hs
    exact h.touchLaw (touchLaw_setLevel hg hl hs)
  | clear h => exact h.touchLaw (touchLaw_of_empty rfl hs.2.2)
  | relabel d h => exact h.touchLaw (touchLaw_relabel d hs)
  | area _ _ _ h => exact h.touchLaw hs
  | head _ _ h => exact h.touchLaw hs
  | region _ _ _ h => exact h.touchLaw hs
  | highMark _ _ h => exact h.touchLaw hs

theorem Event.touchLaw {s t : State} (h : Event s t) (hst : StackLaws s) (hs : TouchLaw s) :
    TouchLaw t := by
  obtain ⟨u, hu, rfl | rfl⟩ := h
  · exact hu.touchLaw hst hs
  · simpa [TouchLaw] using hu.touchLaw hst hs

/-- R21: every command keeps the touch map a map of levels 0 to 4. -/
theorem exec_touchLaw {c : Instr} {s t : State} (h : exec c s = .next t) (hst : StackLaws s)
    (hs : TouchLaw s) : TouchLaw t := by
  cases hc : movesPower c with
  | false => exact (exec_event hc h).touchLaw hst hs
  | true =>
    rcases exec_power hc h with rfl | ⟨-, rfl⟩ | ⟨-, rfl⟩ | ⟨j, a, m, u, n, rfl⟩
    · exact hs
    · exact touchLaw_of_empty rfl (by simpa [enterReset] using hs.2.2)
    · simpa [TouchLaw] using hs
    · have released : TouchLaw (releaseValues m u n s) := touchLaw_of_empty rfl rfl
      have stack : StackLaws (releaseValues m u n s) :=
        ⟨fun _ => ⟨rfl, rfl⟩, fun h => absurd rfl h.1, rfl⟩
      exact (startStraps_event j a _).touchLaw stack released

/-! ## The ranges of the tables -/

/-- R1: an area fits the memory. -/
theorem areaFits_iff (b n : Nat) : areaFits b n = true ↔ b * 1024 + 128 + 44 * n ≤ 1048576 := by
  unfold areaFits areaBytes memorySize
  rw [decide_eq_true_eq]
  omega

/-- R111: the table of a head holds the entries of its words. -/
theorem headTable_get {ws : List Half} {t : Vector Region 8} (h : headTable ws = some t) (i : Fin 8) :
    headRegionOf ws i.val = some (t.get i) := by
  unfold headTable at h
  split at h
  · cases h
    fin_cases i <;> assumption
  · cases h

/-- R111: a head that is not rejected has a slot count in range, an area that fits and a whole table. -/
theorem head_fits_of_not_badHead {base : Nat} {ws : List Half} (h : headOutcome base ws ≠ .badHead) :
    (16 ≤ headSlotsOf ws ∧ headSlotsOf ws ≤ 8192 ∧
      base * 1024 + 128 + 44 * headSlotsOf ws ≤ 1048576) ∧ ∃ t, headTable ws = some t := by
  unfold headOutcome at h
  dsimp only at h
  split at h
  · exact absurd rfl h
  split at h
  · exact absurd rfl h
  split at h
  · exact absurd rfl h
  split at h
  · exact absurd rfl h
  rename_i hslots _ _ hfits
  refine ⟨?_, ?_⟩
  · simp only [areaFits_iff] at hfits
    omega
  · split at h
    · exact absurd rfl h
    · exact ⟨_, ‹_›⟩

theorem Keeps.blockLaws {s u : State} (h : Keeps s u) (hs : BlockLaws s) : BlockLaws u := by
  obtain ⟨hq, hr, hb, hn, hbase, hslots, hmark⟩ := hs
  have := h.records hq
  simp only [BlockLaws, h.regions, h.base, h.slots, h.highMark]
  exact ⟨this, hr, hb, hn, hbase, hslots, hmark⟩

/-- R1, R150: the tests of SET AREA are the ranges of the area. -/
theorem areaTest_iff (b n : Nat) : areaTest b n = true ↔
    b ≤ 1023 ∧ (n = 0 ∨ (16 ≤ n ∧ n ≤ 8192 ∧ b * 1024 + 128 + 44 * n ≤ 1048576)) := by
  simp only [areaTest, areaFits_iff, Bool.and_eq_true, Bool.or_eq_true, decide_eq_true_eq]
  omega

theorem Effect.blockLaws {s u : State} (h : Effect s u) (hs : BlockLaws s) : BlockLaws u := by
  obtain ⟨hq, hr, hb, hn, hbase, hslots, hmark⟩ := id hs
  cases h with
  | keeps h => exact h.blockLaws hs
  | level _ _ _ h => exact h.blockLaws hs
  | clear h => exact h.blockLaws hs
  | relabel _ h => exact h.blockLaws hs
  | area b n test h =>
    obtain ⟨hb', hn'⟩ := (areaTest_iff b n).1 test
    exact h.blockLaws ⟨hq, hr, rfl, rfl, hb', hn', hmark⟩
  | head ws test h =>
    obtain ⟨hfits, t, ht⟩ := head_fits_of_not_badHead test
    refine h.blockLaws ⟨hq, fun i => ?_, rfl, rfl, hbase, .inr hfits, hmark⟩
    simp only [restoreHead, ht, Option.getD_some]
    exact inRange_of_regionOf (headTable_get ht i)
  | region i r fits h =>
    refine h.blockLaws ⟨hq, fun j => ?_, hb, hn, hbase, hslots, hmark⟩
    simp only [setRegion_regions, Vector.get_eq_getElem, Vector.getElem_set]
    split
    · exact fits
    · exact hr j
  | highMark n fits h => exact h.blockLaws ⟨hq, hr, hb, hn, hbase, hslots, fits⟩

theorem Event.blockLaws {s t : State} (h : Event s t) (hs : BlockLaws s) : BlockLaws t := by
  obtain ⟨u, hu, rfl | rfl⟩ := h
  · exact hu.blockLaws hs
  · simpa [BlockLaws] using hu.blockLaws hs

/-- R42, R153, R168: the values of the release are in range. -/
theorem blockLaws_releaseValues (m u n : Bool) (s : State) : BlockLaws (releaseValues m u n s) := by
  refine ⟨Nat.zero_le _, fun i => ?_, rfl, rfl, Nat.zero_le _, .inl rfl, Nat.zero_le _⟩
  have : (releaseValues m u n s).regions.entries.get i = Region.afterReset := by
    simp [releaseValues, State.reset, Vector.get_eq_getElem]
  rw [this]
  decide

/-- Every command keeps the ranges of area, table, high mark and record queue. -/
theorem exec_blockLaws {c : Instr} {s t : State} (h : exec c s = .next t) (hs : BlockLaws s) :
    BlockLaws t := by
  cases hc : movesPower c with
  | false => exact (exec_event hc h).blockLaws hs
  | true =>
    rcases exec_power hc h with rfl | ⟨-, rfl⟩ | ⟨-, rfl⟩ | ⟨j, a, m, u, n, rfl⟩
    · exact hs
    · obtain ⟨-, hrest⟩ := hs
      exact ⟨by simp [enterReset, State.reset], by simpa [enterReset] using hrest⟩
    · simpa [BlockLaws] using hs
    · exact (startStraps_event j a _).blockLaws (blockLaws_releaseValues m u n s)

/-! ## The steps -/

/-- A step runs one command on the state with the queue's rest, or leaves an idle block as it is. -/
theorem step_cases {s t : State} (h : step s = .next t) :
    t = s ∨ ∃ c rest, exec c { s with pending := rest } = .next t := by
  unfold step at h
  split at h
  · cases h
    exact .inl rfl
  · exact .inr ⟨_, _, h⟩

end Sys2Proof.Machine

open Sys2Proof Sys2Proof.Machine Sys2Proof.Safety

/-- Settles O8: a command changes memory by a grant or a cut alone, and the touch map by what `Effect` lists. -/
theorem stepKeepsMemoryAndTouchMap : Obligations.StepKeepsMemoryAndTouchMap := by
  constructor
  · intro s t hs h
    rcases step_cases h with rfl | ⟨c, rest, h⟩
    · exact hs
    · exact exec_memoryForm h hs
  · intro s t hst hs h
    rcases step_cases h with rfl | ⟨c, rest, h⟩
    · exact hs
    · exact exec_touchLaw h hst hs

/-- Settles O10: each table is written within its ranges, and nothing else moves them. -/
theorem stepKeepsBlockLaws : Obligations.StepKeepsBlockLaws := by
  intro s t hs h
  rcases step_cases h with rfl | ⟨c, rest, h⟩
  · exact hs
  · exact exec_blockLaws h hs

/-- Settles O15: a write reaches the memory at its grant, and one cut short changes its own halfword. -/
theorem memoryChangesOnlyByPortWrites : Obligations.MemoryChangesOnlyByPortWrites := by
  intro c s t a h hr hs
  cases hc : movesPower c with
  | false => exact .inl ((exec_event hc h).writeUnderWay hs hr)
  | true =>
    rcases exec_power hc h with rfl | ⟨rfl, rfl⟩ | ⟨rfl, rfl⟩ | ⟨j, k, m, u, n, rfl⟩
    · exact absurd rfl hr
    · exact .inr ⟨writeUnderWay_of_cutAccess hs hr, .inl rfl⟩
    · exact .inr ⟨writeUnderWay_of_cutAccess hs hr, .inr rfl⟩
    · exact .inl ((startStraps_event j k _).writeUnderWay hs hr)
end

section
/-! PROOFS. The head records (R4 to R8, R103), the assertion of reset and the loss of supply (R3, R37), and the
addresses of the engine's writes (R2, R48, R60, R63). -/

namespace Sys2Proof.Machine

open Sys2Proof.Safety

/-! ## The newer copy and the next epoch -/

/-- R5: a head record is valid by its tag and its check. -/
theorem headValid_iff (ws : List Half) :
    headValid ws = true ↔ word ws 0 = 0x4A55#16 ∧ word ws 31 = headCheck ws := by
  simp [headValid]

/-- R6: the difference of two head sequences modulo 65536. -/
theorem headSeq_sub_toNat (a b : List Half) : (headSeqOf a - headSeqOf b).toNat
    = ((word a 1).toNat + 65536 - (word b 1).toNat) % 65536 := by
  have := (word b 1).isLt
  rw [headSeqOf, headSeqOf, BitVec.toNat_sub]
  omega

/-- R6: of two valid copies A is the newer up to a difference of 32768, and B with a difference of 1 to 32767 the
other way round. -/
theorem headSeq_difference_flip (a b : List Half) :
    ¬ ((word a 1).toNat + 65536 - (word b 1).toNat) % 65536 ≤ 32768 ↔
      1 ≤ ((word b 1).toNat + 65536 - (word a 1).toNat) % 65536 ∧
      ((word b 1).toNat + 65536 - (word a 1).toNat) % 65536 ≤ 32767 := by
  have := (word a 1).isLt
  have := (word b 1).isLt
  omega

/-- R103: the next epoch as a number. -/
theorem nextEpoch_toNat (old : Half) :
    (nextEpoch old).toNat = if old.toNat = 0 ∨ old.toNat = 65535 then 1 else old.toNat + 1 := by
  unfold nextEpoch
  by_cases h : old = 0xFFFF#16
  · simp [h]
  · have hne : old.toNat ≠ 65535 := fun hn => h (BitVec.eq_of_toNat_eq hn)
    have := old.isLt
    rw [if_neg h, BitVec.toNat_add, show (1 : Half).toNat = 1 from rfl]
    split <;> omega

/-- R45, R95, R103: with slots configured the wipe follows exactly a new epoch of 1. -/
theorem buildAfterSweep_eq_wipe_iff (epoch : Half) (s : State) (h : s.engine.slots ≠ 0) :
    buildAfterSweep epoch s = .wipe 0 ↔ epoch = 1#16 := by
  unfold buildAfterSweep buildHead
  by_cases he : epoch = 1#16
  · simp [he, Nat.pos_of_ne_zero h]
  · simp [he]

/-! ## Reset and supply -/

/-- R3: what an access cut short leaves at each byte. -/
theorem cutAccess_bytes (s : State) (hm : MemoryForm s) (a : Nat) :
    if writeUnderWay s a then
      Memory.read (cutAccess s).memory a = Memory.read s.memory a ∨
        ∃ b ∈ s.port.busy, Memory.read (cutAccess s).memory a
          = if a % 2 = 0 then lowByte b.seen else highByte b.seen
    else Memory.read (cutAccess s).memory a = Memory.read s.memory a := by
  have cut := read_cutAccess s hm a
  split
  · rcases cut with h | ⟨b, hb, -, -, h⟩
    · exact .inl h
    · exact .inr ⟨b, hb, h⟩
  · rename_i hw
    by_contra hr
    exact hw (writeUnderWay_of_cutAccess hm hr)

/-- R137: what the host port does at the assertion of nRST. -/
theorem hostInReset_fields (h : HostPort) :
    (hostInReset h).access = none ∧ (hostInReset h).rdy = true ∧ (hostInReset h).nBerr = false ∧
    (hostInReset h).cycle = h.cycle ∧ (hostInReset h).holdLimit = h.holdLimit := by
  unfold hostInReset
  split
  · exact ⟨‹_›, rfl, rfl, rfl, rfl⟩
  · exact ⟨rfl, rfl, rfl, rfl, rfl⟩

theorem exec_resetAssert (s : State) (h : s.power ≠ .reset) : exec .resetAssert s = .next (enterReset s) := by
  cases hp : s.power with
  | reset => exact absurd hp h
  | _ => simp [exec, execResetAssert, hp]

theorem exec_supplyLoss (s : State) (h : s.power ≠ .unpowered) :
    exec .supplyLoss s = .next { cutAccess s with power := .unpowered } := by
  cases hp : s.power with
  | unpowered => exact absurd hp h
  | _ => simp [exec, execSupplyLoss, hp]

/-! ## The addresses of the engine's accesses -/

/-- R2: halfword i of slot k at its byte address. -/
theorem slotAddr_eq_byte (base k i : Nat) :
    slotAddr base k i = BitVec.ofNat 19 ((base * 1024 + 128 + 44 * k + 2 * i) / 2) := by
  unfold slotAddr
  congr 1
  omega

/-- R2: a write into a slot at its byte address. -/
theorem slotWrite_at_byte {base k : Nat} (i : Nat) (n : Nat) (v : Half) (h : n = 2 * i) :
    some (writeAt (slotAddr base k i) v) = some
      { addr := BitVec.ofNat 19 ((base * 1024 + 128 + 44 * k + n) / 2), data := some v
        lanes := bothLanes } := by
  rw [slotAddr_eq_byte, h]
  rfl

/-- Halfword j of a granule at its byte address. -/
theorem granuleAddr_eq_byte (g j : Nat) : granuleAddr g j = BitVec.ofNat 19 ((g * 32 + 2 * j) / 2) := by
  unfold granuleAddr
  congr 1
  omega

/-- R2: halfword i of a head record at its byte address. -/
theorem headAddr_eq_byte (base : Nat) (c : Copy) (i : Nat) : headAddr base c i
    = BitVec.ofNat 19 ((base * 1024 + (match c with | .a => 0 | .b => 64) + 2 * i) / 2) := by
  unfold headAddr
  congr 1
  cases c <;> dsimp only <;> omega

/-! ### The accesses of a save (R47, R48) -/

section Save
variable (e : Engine) (w : SaveWork)

theorem saveAccess_void : saveAccess e w 0 = some (writeAt (slotAddr e.base e.fill 0) kindVoid) := rfl

theorem saveAccess_read {j : Nat} (h : j < 16) :
    saveAccess e w (2 * j + 1) = some (readAt (granuleAddr w.granule.toNat j)) := by
  have h1 : 2 * j + 1 ≤ 32 := by omega
  simp [saveAccess, h1]

theorem saveAccess_write {j : Nat} (h : j < 16) :
    saveAccess e w (2 * j + 2) = some (writeAt (slotAddr e.base e.fill (6 + j)) (word w.data j)) := by
  have h1 : 2 * j + 2 ≤ 32 := by omega
  have h2 : (2 * j + 1) / 2 = j := by omega
  simp [saveAccess, h1, h2]

/-- The five header halfwords after the kind (R15). -/
theorem saveAccess_header {i : Nat} (h1 : 1 ≤ i) (h5 : i ≤ 5) :
    saveAccess e w (32 + i) = some (writeAt (slotAddr e.base e.fill i)
      (word (newHeader e.epoch e.fill (half w.granule.toNat) (half w.prior)
        (saveCheck e.epoch (half e.fill) (half w.granule.toNat) (half w.prior) w.data)) (i - 1))) := by
  have h0 : 32 + i ≠ 0 := by omega
  have h2 : ¬ 32 + i ≤ 32 := by omega
  have h3 : 32 + i ≤ 37 := by omega
  have h4 : 32 + i - 32 = i := by omega
  have h6 : 32 + i - 33 = i - 1 := by omega
  simp only [saveAccess, h0, h2, h3, h4, h6, if_false, if_true]

theorem saveAccess_kind : saveAccess e w 38 = some (writeAt (slotAddr e.base e.fill 0) kindSave) := rfl

theorem saveAccess_none {n : Nat} (h : 39 ≤ n) : saveAccess e w n = none := by
  have h0 : n ≠ 0 := by omega
  have h1 : ¬ n ≤ 32 := by omega
  have h2 : ¬ n ≤ 37 := by omega
  have h3 : n ≠ 38 := by omega
  simp [saveAccess, h0, h1, h2, h3]

end Save

end Sys2Proof.Machine

open Sys2Proof Sys2Proof.Machine Sys2Proof.Safety

/-- Settles O6, by the four cases of the two copies' validity. -/
theorem newerCopyAndNewEpoch : Obligations.NewerCopyAndNewEpoch := by
  refine ⟨⟨headValid_iff, fun a b => ?_⟩, nextEpoch_toNat, buildAfterSweep_eq_wipe_iff⟩
  rw [← headSeq_difference_flip a b]
  unfold newerCopy
  rw [headSeq_sub_toNat]
  cases headValid a <;> cases headValid b
  · simp
  · simp
  · simp
  · by_cases h : ((word a 1).toNat + 65536 - (word b 1).toNat) % 65536 ≤ 32768 <;> simp [h]

/-- Settles O20: the blocks' values at the event, and the bytes that the cut access leaves. -/
theorem resetAssertAndSupplyLoss : Obligations.ResetAssertAndSupplyLoss := by
  constructor
  · intro s h
    obtain ⟨ha, hr, hn, hc, hl⟩ := hostInReset_fields s.host
    obtain ⟨-, -, -, hrg, hh, -, -, -, hq, hp⟩ := cutAccess_frame s
    refine ⟨_, exec_resetAssert s h, rfl, rfl, ?_, ?_, ?_, ?_, ?_, ?_, hp, rfl, fun n => ?_, rfl, rfl, rfl,
      rfl, rfl, ?_, ?_, hrg, hq, cutAccess_bytes s⟩
    · simp [enterReset]
    · simpa [enterReset, hh] using ha
    · simpa [enterReset, hh] using hr
    · simpa [enterReset, hh] using hn
    · simpa [enterReset, hh] using hc
    · simpa [enterReset, hh] using hl
    · simp [enterReset, State.reset, Vector.get_eq_getElem]
    · simp [enterReset]
    · simp [enterReset]
  · intro s h
    refine ⟨_, exec_supplyLoss s h, ?_, cutAccess_bytes s⟩
    rw [cutAccess_eq]

/-- Settles O30, access by access, each slot halfword at its byte address. -/
theorem entryWriteSequences : Obligations.EntryWriteSequences := by
  constructor
  · intro e _ _
    refine ⟨fun w => ?_, fun label => ?_⟩
    · refine ⟨slotWrite_at_byte _ _ _ rfl, fun j hj => ⟨?_, ?_⟩, slotWrite_at_byte _ _ _ rfl,
        slotWrite_at_byte _ _ _ rfl, slotWrite_at_byte _ _ _ rfl, slotWrite_at_byte _ _ _ rfl,
        slotWrite_at_byte _ _ _ rfl, slotWrite_at_byte _ _ _ rfl, fun n hn => saveAccess_none _ _ hn⟩
      · exact (saveAccess_read _ _ hj).trans (by rw [granuleAddr_eq_byte]; rfl)
      · exact (saveAccess_write _ _ hj).trans (slotWrite_at_byte _ _ _ (by omega))
    · exact ⟨slotWrite_at_byte _ _ _ rfl, slotWrite_at_byte _ _ _ rfl, slotWrite_at_byte _ _ _ rfl,
        slotWrite_at_byte _ _ _ rfl, slotWrite_at_byte _ _ _ rfl, slotWrite_at_byte _ _ _ rfl,
        slotWrite_at_byte _ _ _ rfl⟩
  · intro e _ _ c hc _
    have top : e.topPosition = c.position := by
      simp only [Option.mem_def] at hc
      simp [Engine.topPosition, hc]
    have wanted : Engine.wanted { e with mode := .releasing .writeKind }
        = some (writeAt (slotAddr e.base (e.topPosition - 1) 0) kindReleased) := rfl
    rw [wanted, top]
    have at_byte := slotWrite_at_byte (base := e.base) (k := c.position - 1) 0 0 kindReleased rfl
    rw [Nat.add_zero] at at_byte
    exact at_byte
end

section
/-! PROOFS. Head writes (R4, R7, R8, R187), the end of the head phase (R110 to R114), and the commands that move the
area and write a region (R147, R150). -/

namespace Sys2Proof.Machine

open Sys2Proof.Safety

/-! ## The words of a head record -/

/-- R187: the table copy holds two halfwords for each entry. -/
theorem length_flatMap_regionWords (l : List Region) : (l.flatMap regionWords).length = 2 * l.length := by
  simp [regionWords, Nat.mul_comm]

/-- R187: the two halfwords of entry i stand at 2i and 2i + 1 of the table copy. -/
theorem word_flatMap_regionWords (l : List Region) (i : Nat) (h : i < l.length) :
    word (l.flatMap regionWords) (2 * i) = half (modeCode l[i].mode * 4096 + l[i].base) ∧
    word (l.flatMap regionWords) (2 * i + 1) = half l[i].length := by
  induction l generalizing i with
  | nil => simp at h
  | cons r l ih =>
    cases i with
    | zero => exact ⟨rfl, rfl⟩
    | succ i => exact ih i (by simpa using h)

/-- A halfword before the end of a first part, and one after it. -/
theorem word_append_left (a b : List Half) (i : Nat) (h : i < a.length) : word (a ++ b) i = word a i :=
  List.getD_append _ _ _ _ h

theorem word_append_right (a b : List Half) (i : Nat) (h : a.length ≤ i) :
    word (a ++ b) i = word b (i - a.length) :=
  List.getD_append_right _ _ _ _ h

section HeadWords
variable (q e : Half) (n : Nat) (st : Half) (entries : List Region)

/-- R187: the 31 halfwords under the check. -/
def headBody : List Half :=
  [0x4A55#16, q, e, half n, st] ++ entries.flatMap regionWords ++ List.replicate 10 0#16

theorem headWords_eq :
    headWords q e n st entries = headBody q e n st entries ++ [headCheck (headBody q e n st entries)] := rfl

variable {entries} (h8 : entries.length = 8)
include h8

theorem length_headBody : (headBody q e n st entries).length = 31 := by
  simp [headBody, -List.length_flatMap, length_flatMap_regionWords, h8]

theorem length_headWords : (headWords q e n st entries).length = 32 := by
  simp [headWords_eq, length_headBody q e n st h8]

/-- R187: the five halfwords before the table copy. -/
theorem word_headWords_fields (i : Nat) (h : i < 5) :
    word (headWords q e n st entries) i = word [0x4A55#16, q, e, half n, st] i := by
  rw [headWords_eq, word_append_left _ _ _ (by rw [length_headBody q e n st h8]; omega), headBody,
    List.append_assoc, word_append_left _ _ _ h]

/-- R187: the copy of the table. -/
theorem word_headWords_table (i : Nat) (h : i < 16) :
    word (headWords q e n st entries) (5 + i) = word (entries.flatMap regionWords) i := by
  have hlen : (entries.flatMap regionWords).length = 16 := by rw [length_flatMap_regionWords, h8]
  rw [headWords_eq, word_append_left _ _ _ (by rw [length_headBody q e n st h8]; omega), headBody,
    word_append_left _ _ _ (by rw [List.length_append, hlen]; simp; omega),
    word_append_right _ _ _ (by simp)]
  congr 1
  simp

/-- R187: ten pads of zero. -/
theorem word_headWords_pad (i : Nat) (h21 : 21 ≤ i) (h30 : i ≤ 30) :
    word (headWords q e n st entries) i = 0#16 := by
  have hlen : ([0x4A55#16, q, e, half n, st] ++ entries.flatMap regionWords).length = 21 := by
    rw [List.length_append, length_flatMap_regionWords, h8]
    rfl
  rw [headWords_eq, word_append_left _ _ _ (by rw [length_headBody q e n st h8]; omega), headBody,
    word_append_right _ _ _ (by omega), word, List.getD_replicate _ (by omega)]

/-- R4, R14: the check is that of the record as it stands. -/
theorem word_headWords_check :
    word (headWords q e n st entries) 31 = headCheck (headWords q e n st entries) := by
  have hlen := length_headBody q e n st h8
  have body : (headWords q e n st entries).take 31 = (headBody q e n st entries).take 31 := by
    rw [headWords_eq, List.take_append_of_le_length (by omega)]
  rw [headCheck, body, ← headCheck, headWords_eq, word_append_right _ _ _ (by omega), hlen]
  rfl

end HeadWords

/-- R7: the copy that is not current. -/
theorem targetCopy_eq (c : Option Copy) : targetCopy c = if c = some .a then .b else .a := by
  rcases c with _ | _ | _ <;> rfl

/-- R2, R8: a head write's next access at its byte address. -/
theorem headAccess_eq (e : Engine) (w : HeadWrite) : headAccess e w =
    { addr := BitVec.ofNat 19 ((e.base * 1024 + (match w.copy with | .a => 0 | .b => 64) + 2 * w.done) / 2)
      data := some (word w.words w.done), lanes := bothLanes } := by
  rw [headAccess, headAddr_eq_byte]
  rfl

/-! ## An engine access completes -/

/-- R139: the operation runs on at the freed port with the halfword found at the grant. -/
theorem exec_of_engineAccess {s : State} {v : Half} (h : EngineAccess s v) :
    exec .engineAccessComplete s = .next (settle (advance v (portFreed .engine s))) := by
  obtain ⟨hp, hw, hv⟩ := h
  obtain ⟨b, hb, hwho⟩ := Option.map_eq_some_iff.1 hw
  rw [hb, Option.map_some, Option.some.injEq] at hv
  rw [exec_engineAccess s b hp hb hwho, hv]
  rfl

/-- R8: the check write is the last of 32. -/
theorem ite_last {α : Type} (w : HeadWrite) (x y : α) :
    (if w.last then x else y) = if w.done < 31 then y else x := by
  by_cases h : w.done < 31
  · simp [HeadWrite.last, h]
  · rw [if_neg h, if_pos (by simpa [HeadWrite.last] using h)]

/-! ## The head phase -/

/-- R111: when every entry of a head passes its range tests, its table holds them. -/
theorem headTable_of_isSome {ws : List Half} (h : ∀ i : Fin 8, (headRegionOf ws i.val).isSome = true) :
    ∃ t, headTable ws = some t := by
  have entry (i : Fin 8) : ∃ r, headRegionOf ws i.val = some r := Option.isSome_iff_exists.1 (h i)
  obtain ⟨r0, h0 : headRegionOf ws 0 = _⟩ := entry 0
  obtain ⟨r1, h1 : headRegionOf ws 1 = _⟩ := entry 1
  obtain ⟨r2, h2 : headRegionOf ws 2 = _⟩ := entry 2
  obtain ⟨r3, h3 : headRegionOf ws 3 = _⟩ := entry 3
  obtain ⟨r4, h4 : headRegionOf ws 4 = _⟩ := entry 4
  obtain ⟨r5, h5 : headRegionOf ws 5 = _⟩ := entry 5
  obtain ⟨r6, h6 : headRegionOf ws 6 = _⟩ := entry 6
  obtain ⟨r7, h7 : headRegionOf ws 7 = _⟩ := entry 7
  exact ⟨#v[r0, r1, r2, r3, r4, r5, r6, r7], by simp only [headTable, h0, h1, h2, h3, h4, h5, h6, h7]⟩

/-- R112, R147: a restored head has the entries of its words, where all of them pass. -/
theorem headTable_getD_get {ws : List Half} (h : ∀ i : Fin 8, (headRegionOf ws i.val).isSome = true)
    (d : Vector Region 8) (i : Fin 8) : some (((headTable ws).getD d).get i) = headRegionOf ws i.val := by
  obtain ⟨t, ht⟩ := headTable_of_isSome h
  rw [headTable_get ht i, ht, Option.getD_some]

/-- R110: the head read that completes is joined to those before it, up to the 64th. -/
theorem advanceScanning_heads (v : Half) (autoUndo : Bool) (level : Nat) (got : List Half) (s : State) :
    advanceScanning v autoUndo level (.heads got) s
      = if got.length < 63 then setMode (.scanning autoUndo level (.heads (got ++ [v]))) s
        else headPhaseEnd autoUndo level (got ++ [v]) s := by
  simp only [advanceScanning, List.length_append, List.length_singleton]
  by_cases h : got.length < 63
  · rw [if_pos h, if_pos (by omega)]
  · rw [if_neg h, if_neg (by omega)]

/-! ## The area and the regions -/

theorem exec_setArea_taken {s : State} {b n : Half} {crc : Byte} (h : Taken (.setArea b n crc) s)
    (hm : s.engine.mode = .off) : exec (.setArea b n crc) s = .next
      (if areaTest b.toNat n.toNat then moveArea b.toNat n.toNat (frameBegun s)
       else respond 0x12#8 .range [] (frameBegun s)) := by
  have mode : (frameBegun s).engine.mode = .off := by simp [hm]
  simp only [exec, execSetArea, takeFrame_of_taken h rfl, takeSetArea]
  rw [gated_taken _ _ _ _ (by rw [mode]; rfl) (by rw [mode]; rfl)]

theorem exec_writeRegion_taken {s : State} {index mode : Byte} {b n : Half} {crc : Byte}
    (h : Taken (.writeRegion index mode b n crc) s)
    (hm : s.engine.mode = .off ∨ (s.engine.mode = .active ∧ s.engine.fill = 0)) :
    exec (.writeRegion index mode b n crc) s
      = .next (regionTested index mode b n (frameBegun s)) := by
  simp only [exec, execWriteRegion, takeFrame_of_taken h rfl, takeWriteRegion]
  rw [gated_taken]
  · rcases hm with hm | ⟨hm, -⟩ <;> simp [hm, Mode.name, StateName.resting]
  · rcases hm with hm | ⟨hm, hf⟩ <;> simp [hm, Mode.name, regionStates]
    exact hf

theorem modeOfCode_eq_journal {code : Nat} {m : RegionMode} (h : modeOfCode code = some m) :
    m = .journal ↔ code = 1 := by
  unfold modeOfCode at h
  split at h <;> cases h <;> simp

/-- R147, steps 2 to 4, all passed. -/
theorem regionTested_of_passes {s : State} {index mode : Byte} {b n : Half} {i : Fin 8} {r : Region}
    (hi : index.toNat = i.val) (hr : regionOf mode.toNat b.toNat n.toNat = some r)
    (hover : ¬ (s.engine.mode = .active ∧
      overlapsArea s.regions.areaBase s.regions.areaSlots r = true)) :
    regionTested index mode b n s = regionTaken i r s := by
  have hidx : index.toNat < 8 := hi ▸ i.isLt
  have hfin : (⟨index.toNat, hidx⟩ : Fin 8) = i := Fin.ext hi
  simp only [regionTested, hidx, dif_pos, hr, hover, if_false, hfin]

/-- R147, steps 2 to 4, one of them failed. -/
theorem regionTested_of_fails {s : State} {index mode : Byte} {b n : Half}
    (h : 8 ≤ index.toNat ∨ regionOf mode.toNat b.toNat n.toNat = none ∨
      ∀ r, regionOf mode.toNat b.toNat n.toNat = some r →
        s.engine.mode = .active ∧ overlapsArea s.regions.areaBase s.regions.areaSlots r = true) :
    regionTested index mode b n s = replied 0x10#8 .range [] s := by
  unfold regionTested
  split
  · rename_i hidx
    rcases h with h8 | hnone | hover
    · omega
    · simp only [hnone]
      rfl
    · cases hr : regionOf mode.toNat b.toNat n.toNat with
      | none => rfl
      | some r =>
        simp only [hover r hr, and_self, if_true]
        rfl
  · rfl

/-- R143: only code 1 makes a JOURNAL entry. -/
theorem regionOf_eq_some {code base length : Nat} {r : Region} (h : regionOf code base length = some r) :
    r.base = base ∧ r.length = length ∧ (r.mode = .journal ↔ code = 1) := by
  unfold regionOf at h
  split at h
  · cases h
  · rename_i hmode
    split at h
    · cases h
      exact ⟨rfl, rfl, modeOfCode_eq_journal hmode⟩
    · cases h

/-- R146: whether the entry of a frame's parameters overlaps the area. -/
theorem overlapsArea_of_regionOf {code base length : Nat} {r : Region} (h : regionOf code base length = some r)
    (areaBase slots : Nat) : overlapsArea areaBase slots r = true ↔
      code = 1 ∧ overlapsArea areaBase slots { mode := .journal, base := base, length := length } = true := by
  obtain ⟨hb, hl, hj⟩ := regionOf_eq_some h
  by_cases hc : code = 1
  · simp [overlapsArea, hj.2 hc, hb, hl, hc]
  · have : r.mode ≠ .journal := fun hm => hc (hj.1 hm)
    simp [overlapsArea, this, hc]

end Sys2Proof.Machine

open Sys2Proof Sys2Proof.Machine Sys2Proof.Safety

/-- Settles O31: the record's words by their place, and the address of each write. -/
theorem headWriteSequence : Obligations.HeadWriteSequence := by
  constructor
  · intro st epoch s
    have h8 : s.regions.entries.toList.length = 8 := by simp
    refine ⟨targetCopy_eq _, rfl, length_headWords _ _ _ _ h8,
      word_headWords_fields _ _ _ _ h8 0 (by omega), word_headWords_fields _ _ _ _ h8 1 (by omega),
      word_headWords_fields _ _ _ _ h8 2 (by omega), word_headWords_fields _ _ _ _ h8 3 (by omega),
      word_headWords_fields _ _ _ _ h8 4 (by omega), fun i => ?_,
      fun i h21 h30 => word_headWords_pad _ _ _ _ h8 i h21 h30, word_headWords_check _ _ _ _ h8⟩
    obtain ⟨hfirst, hsecond⟩ := word_flatMap_regionWords s.regions.entries.toList i.val (by omega)
    have hi := i.isLt
    refine ⟨(word_headWords_table _ _ _ _ h8 (2 * i.val) (by omega)).trans hfirst, ?_⟩
    rw [show 6 + 2 * i.val = 5 + (2 * i.val + 1) by omega]
    exact (word_headWords_table _ _ _ _ h8 _ (by omega)).trans hsecond
  · intro e w _ _
    have at_byte := congrArg some (headAccess_eq e w)
    exact ⟨at_byte, at_byte, at_byte, fun _ => ⟨at_byte, at_byte⟩⟩

/-- Settles O35: in each of the five operations the next write, or what its check write brings. -/
theorem headWritesAdvance : Obligations.HeadWritesAdvance := by
  intro s v w h _
  rw [exec_of_engineAccess h]
  refine ⟨fun epoch hm => ?_, fun epoch hm => ?_, fun hm => ?_, fun hm => ?_, fun hm => ?_⟩ <;>
    congr 2 <;> simp only [advance, portFreed, hm]
  · simp only [advanceArming, ite_last]
    rfl
  · simp only [advanceCommitting, ite_last]
    rfl
  · simp only [advanceDisarming, ite_last]
    rfl
  · simp only [advanceRecording, ite_last]
    rfl
  · simp only [advanceBreaking, ite_last]
    rfl

/-- Settles O42, by the newer valid copy and the outcome of its tests. -/
theorem resumeHeadPhase : Obligations.ResumeHeadPhase := by
  intro s v auto l got h hm
  rw [exec_of_engineAccess h]
  have completed : advance v (portFreed .engine s)
      = advanceScanning v auto l (.heads got) (portFreed .engine s) := by
    simp only [advance, portFreed, hm]
  rw [completed, advanceScanning_heads]
  refine ⟨fun hlen => ?_, fun hlen => ?_, fun ws hws i => headTable_getD_get hws _ i⟩
  · rw [if_pos hlen]
    rfl
  · have hnot : ¬ got.length < 63 := by omega
    rw [if_neg hnot]
    simp only [headPhaseEnd, List.take_append_of_le_length (show 32 ≤ got.length by omega),
      List.drop_append_of_le_length (show 32 ≤ got.length by omega)]
    congr 2
    generalize got.take 32 = a
    generalize got.drop 32 ++ [v] = b
    cases hn : newerCopy a b with
    | none => simp [takeHeadChoice, chosenSequence, hn, resumeOff, setResume, portFreed]
    | some c =>
      cases c with
      | a =>
        simp only [takeHead, takeHeadChoice, chosenSequence, hn, portFreed, Option.map_some]
        cases headOutcome s.engine.base a <;> rfl
      | b =>
        simp only [takeHead, takeHeadChoice, chosenSequence, hn, portFreed, Option.map_some]
        cases headOutcome s.engine.base b <;> rfl

/-- Settles O58: the range tests, and the tables written. -/
theorem setAreaAndWriteRegion : Obligations.SetAreaAndWriteRegion := by
  constructor
  · intro s b n crc h hm
    obtain ⟨-, he, -, hr, -⟩ := frameBegun_frame s
    rw [exec_setArea_taken h hm, ← areaTest_iff]
    refine ⟨fun hp => ?_, fun hp => ?_⟩
    · rw [if_neg hp, respond_eq]
    · rw [if_pos hp, moveArea, setAreaValues, he, hr, respond_eq]
  · intro s index mode b n crc h hm
    obtain ⟨-, he, -, hrg, -⟩ := frameBegun_frame s
    rw [exec_writeRegion_taken h hm]
    refine ⟨fun hbad => ?_, fun i r hi hr hover => ?_⟩
    · refine congrArg _ (regionTested_of_fails (hbad.imp id (Or.imp id fun hover r hr => ?_)))
      obtain ⟨hact, hcode, hover⟩ := hover
      rw [he, hrg]
      exact ⟨hact, (overlapsArea_of_regionOf hr _ _).2 ⟨hcode, hover⟩⟩
    · have passes : ¬ ((frameBegun s).engine.mode = .active ∧ overlapsArea (frameBegun s).regions.areaBase
          (frameBegun s).regions.areaSlots r = true) := by
        rwa [he, hrg, overlapsArea_of_regionOf hr]
      rw [regionTested_of_passes hi hr passes]
      refine ⟨fun hoff => ?_, fun hact => ?_⟩
      · rw [regionTaken, he, if_pos hoff, setRegion, hrg, he, respond_eq]
      · rw [regionTaken, he, if_neg (by simp [hact]), setRegion, hrg]
        simp only [accepted, beginRecording, setMode, he]
        rfl
end

section
/-! PROOFS. A journaled write from its arrival through its save to its forward (R24, R26, R47 to R49, R136): the memory
after each access of the save, and the run of the 41 commands. -/

namespace Sys2Proof.Machine

open Sys2Proof.Safety

/-! ## Halfwords in memory -/

/-- A halfword after a whole halfword written. -/
theorem readHalf_performAccess_writeAt (m : Memory) (h : Memory.wf m) (a b : HalfAddr) (v : Half) :
    readHalf (performAccess m (writeAt a v)) b = if b = a then v else readHalf m b := by
  simp only [readHalf, performAccess, writeAt, read_writeHalf _ _ _ _ _ h, bothLanes, true_and]
  by_cases hb : b = a
  · simp [hb]
  · have hne : b.toNat ≠ a.toNat := fun hn => hb (BitVec.eq_of_toNat_eq hn)
    rw [if_neg hb, if_neg (by omega), if_neg (by omega), if_neg (by omega), if_neg (by omega)]

/-- R136: a byte after an access: a write changes the bytes of its enabled lanes. -/
theorem read_performAccess (m : Memory) (h : Memory.wf m) (x : MemAccess) (v : Half) (hx : x.data = some v)
    (a : Nat) : Memory.read (performAccess m x) a
      = if storesTo x a then (if a % 2 = 0 then lowByte v else highByte v) else Memory.read m a := by
  simp only [performAccess, hx, read_writeHalf _ _ _ _ _ h, storesTo, Option.isSome_some, Bool.true_and,
    Bool.or_eq_true, Bool.and_eq_true, beq_iff_eq]
  by_cases hu : x.lanes.upper = true ∧ a = 2 * x.addr.toNat + 1
  · rw [if_pos hu, if_pos (.inr hu), if_neg (by omega)]
  · by_cases hl : x.lanes.lower = true ∧ a = 2 * x.addr.toNat
    · rw [if_neg hu, if_pos hl, if_pos (.inl hl), if_pos (by omega)]
    · rw [if_neg hu, if_neg hl, if_neg (not_or.2 ⟨hl, hu⟩)]

/-- A halfword none of whose bytes an access writes. -/
theorem readHalf_eq_of_read_eq {m m' : Memory} {a : HalfAddr}
    (h : ∀ b, b / 2 = a.toNat → Memory.read m b = Memory.read m' b) : readHalf m a = readHalf m' a := by
  rw [readHalf, readHalf, h _ (by omega), h _ (by omega)]

/-- The granule of a halfword address as a number. -/
theorem granuleOf_toNat (a : HalfAddr) : (granuleOf a).toNat = a.toNat / 16 := by
  have := a.isLt
  simp [granuleOf, Nat.shiftRight_eq_div_pow]
  omega

/-! ## Where a save stands in the memory -/

/-- R1, R2: slot k lies in an area that fits, so that none of its addresses wraps. -/
theorem slotAddr_toNat {base k i slots : Nat} (hfit : base * 1024 + 128 + 44 * slots ≤ 1048576)
    (hk : k < slots) (hi : i < 22) : (slotAddr base k i).toNat = base * 512 + 64 + 22 * k + i := by
  simp only [slotAddr, BitVec.toNat_ofNat]
  omega

theorem granuleAddr_toNat {g j : Nat} (hg : g < 32768) (hj : j < 16) :
    (granuleAddr g j).toNat = g * 16 + j := by
  simp only [granuleAddr, BitVec.toNat_ofNat]
  omega

/-- R77: a granule that shares no byte with the area lies before it or after it. -/
theorem outside_of_granuleMeetsArea {base slots g : Nat} (hs : slots ≠ 0)
    (h : granuleMeetsArea base slots g = false) :
    g * 32 + 32 ≤ base * 1024 ∨ base * 1024 + 128 + 44 * slots ≤ g * 32 := by
  simp only [granuleMeetsArea, rangesMeet, areaBytes, hs, ne_eq, not_false_eq_true, decide_true,
    Bool.true_and] at h
  have apart := of_decide_eq_false h
  omega

/-! ## The accesses of a save in order -/

section Accesses
variable (e : Engine) (w : SaveWork)

/-- R48: the five kinds of access of a save, by its number. -/
theorem saveAccess_number (n : Nat) (h : n ≤ 38) :
    n = 0 ∨ (∃ j < 16, n = 2 * j + 1) ∨ (∃ j < 16, n = 2 * j + 2) ∨ (∃ i, 1 ≤ i ∧ i ≤ 5 ∧ n = 32 + i) ∨
      n = 38 := by
  rcases Nat.lt_or_ge 32 n with h32 | h32
  · rcases Nat.lt_or_ge 37 n with h37 | h37
    · omega
    · exact .inr (.inr (.inr (.inl ⟨n - 32, by omega, by omega, by omega⟩)))
  · rcases Nat.eq_zero_or_pos n with h0 | h0
    · exact .inl h0
    · rcases Nat.mod_two_eq_zero_or_one n with h2 | h2
      · exact .inr (.inr (.inl ⟨n / 2 - 1, by omega, by omega⟩))
      · exact .inr (.inl ⟨n / 2, by omega, by omega⟩)

theorem saveAccess_isSome {n : Nat} (h : n ≤ 38) : ∃ x, saveAccess e w n = some x := by
  rcases saveAccess_number n h with rfl | ⟨j, hj, rfl⟩ | ⟨j, hj, rfl⟩ | ⟨i, h1, h5, rfl⟩ | rfl
  · exact ⟨_, saveAccess_void e w⟩
  · exact ⟨_, saveAccess_read e w hj⟩
  · exact ⟨_, saveAccess_write e w hj⟩
  · exact ⟨_, saveAccess_header e w h1 h5⟩
  · exact ⟨_, saveAccess_kind e w⟩

/-- R48: which place of the slot access n writes. -/
def writesPlace (n i : Nat) : Prop :=
  ((n = 0 ∨ n = 38) ∧ i = 0) ∨ (n = 32 + i ∧ 1 ≤ i ∧ i ≤ 5) ∨ (n + 10 = 2 * i ∧ 6 ≤ i ∧ i < 22)

/-- R48: access n of a save reads the granule or writes one place of its slot. -/
theorem saveAccess_effect {n : Nat} {x : MemAccess} (h : saveAccess e w n = some x) :
    x.data = none ∨ ∃ i v, x = writeAt (slotAddr e.base e.fill i) v ∧ writesPlace n i := by
  have hn : n ≤ 38 := by
    by_contra hn
    rw [saveAccess_none e w (by omega)] at h
    cases h
  rcases saveAccess_number n hn with rfl | ⟨j, hj, rfl⟩ | ⟨j, hj, rfl⟩ | ⟨i, h1, h5, rfl⟩ | rfl
  · rw [saveAccess_void, Option.some.injEq] at h
    exact .inr ⟨0, _, h.symm, by simp [writesPlace]⟩
  · rw [saveAccess_read e w hj, Option.some.injEq] at h
    exact .inl (h ▸ rfl)
  · rw [saveAccess_write e w hj, Option.some.injEq] at h
    exact .inr ⟨_, _, h.symm, by unfold writesPlace; omega⟩
  · rw [saveAccess_header e w h1 h5, Option.some.injEq] at h
    exact .inr ⟨_, _, h.symm, by unfold writesPlace; omega⟩
  · rw [saveAccess_kind, Option.some.injEq] at h
    exact .inr ⟨0, _, h.symm, by simp [writesPlace]⟩

/-- The save as far as n accesses have completed: a halfword of the granule for each read of them. -/
def SaveWork.upTo (w : SaveWork) (n : Nat) : SaveWork := { w with done := n, data := w.data.take (n / 2) }

/-- What access n needs of the granule has been read before it. -/
theorem saveAccess_upTo (hlen : w.data.length = 16) (n : Nat) :
    saveAccess e (w.upTo n) n = saveAccess e w n := by
  rcases Nat.lt_or_ge 38 n with hn | hn
  · rw [saveAccess_none _ _ hn, saveAccess_none _ _ hn]
  rcases saveAccess_number n hn with rfl | ⟨j, hj, rfl⟩ | ⟨j, hj, rfl⟩ | ⟨i, h1, h5, rfl⟩ | rfl
  · rfl
  · rw [saveAccess_read _ _ hj, saveAccess_read _ _ hj]
    rfl
  · have read : word (w.data.take ((2 * j + 2) / 2)) j = word w.data j := by
      rw [show (2 * j + 2) / 2 = j + 1 by omega, word, word, List.getD_eq_getElem?_getD,
        List.getElem?_take_of_lt (by omega), ← List.getD_eq_getElem?_getD]
    rw [saveAccess_write _ _ hj, saveAccess_write _ _ hj]
    exact congrArg (fun v => some (writeAt _ v)) read
  · have all : w.data.take ((32 + i) / 2) = w.data := List.take_of_length_le (by omega)
    rw [saveAccess_header _ _ h1 h5, saveAccess_header _ _ h1 h5, SaveWork.upTo, all]
  · rfl

/-- The memory after the grants of the first n accesses of a save. -/
def savedMemory (m : Memory) : Nat → Memory
  | 0 => m
  | n + 1 =>
    match saveAccess e w n with
    | some x => performAccess (savedMemory m n) x
    | none => savedMemory m n

theorem savedMemory_succ {m : Memory} {n : Nat} {x : MemAccess} (h : saveAccess e w n = some x) :
    savedMemory e w m (n + 1) = performAccess (savedMemory e w m n) x := by
  simp only [savedMemory, h]

theorem wf_savedMemory {m : Memory} (h : Memory.wf m) (n : Nat) : Memory.wf (savedMemory e w m n) := by
  induction n with
  | zero => exact h
  | succ n ih =>
    unfold savedMemory
    split
    · exact wf_performAccess _ _ ih
    · exact ih

variable {e} (hfit : e.base * 1024 + 128 + 44 * e.slots ≤ 1048576) (hfill : e.fill < e.slots)
include hfit hfill

/-- R3: a save leaves every byte outside its slot. -/
theorem read_savedMemory_outside {m : Memory} (h : Memory.wf m) (n a : Nat)
    (ha : a < e.base * 1024 + 128 + 44 * e.fill ∨ e.base * 1024 + 128 + 44 * e.fill + 44 ≤ a) :
    Memory.read (savedMemory e w m n) a = Memory.read m a := by
  induction n with
  | zero => rfl
  | succ n ih =>
    unfold savedMemory
    split
    · rename_i x hx
      rcases saveAccess_effect e w hx with hd | ⟨i, v, rfl, hi⟩
      · rw [performAccess, hd]
        exact ih
      · have hi : i < 22 := by
          unfold writesPlace at hi
          omega
        have haddr := slotAddr_toNat hfit hfill hi
        rw [read_performAccess _ (wf_savedMemory e w h n) _ v rfl, if_neg, ih]
        simp only [writeAt, storesTo, bothLanes, Option.isSome_some, Bool.true_and, Bool.or_eq_true,
          beq_iff_eq]
        omega
    · exact ih

/-- A place of the slot holds what its last access has written there. -/
theorem readHalf_savedMemory {m : Memory} (h : Memory.wf m) {n t i : Nat} {v : Half} (hi : i < 22) (ht : t < n)
    (hw : saveAccess e w t = some (writeAt (slotAddr e.base e.fill i) v))
    (hlast : ∀ t' < n, writesPlace t' i → t' ≤ t) :
    readHalf (savedMemory e w m n) (slotAddr e.base e.fill i) = v := by
  induction n with
  | zero => omega
  | succ n ih =>
    by_cases hn : t = n
    · rw [savedMemory_succ e w (hn ▸ hw), readHalf_performAccess_writeAt _ (wf_savedMemory e w h n), if_pos rfl]
    · have before := ih (by omega) fun t' h' => hlast t' (by omega)
      unfold savedMemory
      split
      · rename_i x hx
        rcases saveAccess_effect e w hx with hd | ⟨i', v', rfl, hi'⟩
        · rw [performAccess, hd]
          exact before
        · rw [readHalf_performAccess_writeAt _ (wf_savedMemory e w h n), if_neg, before]
          intro heq
          have place : i' < 22 := by
            unfold writesPlace at hi'
            omega
          have same : i' = i := by
            have := congrArg BitVec.toNat heq
            rw [slotAddr_toNat hfit hfill hi, slotAddr_toNat hfit hfill place] at this
            omega
          have := hlast n (by omega) (same ▸ hi')
          omega
      · exact before

/-- R15, R48: after the 39 accesses the slot holds the kind, the header and the granule's data. -/
theorem readHalf_savedSlot {m : Memory} (h : Memory.wf m) {i : Nat} (hi : i < 22) :
    readHalf (savedMemory e w m (38 + 1)) (slotAddr e.base e.fill i)
      = word (kindSave :: newHeader e.epoch e.fill (half w.granule.toNat) (half w.prior)
          (saveCheck e.epoch (half e.fill) (half w.granule.toNat) (half w.prior) w.data) ++ w.data) i := by
  have last {t : Nat} {v : Half} (ht : t < 39)
      (hw : saveAccess e w t = some (writeAt (slotAddr e.base e.fill i) v))
      (hlast : ∀ t' < 39, writesPlace t' i → t' ≤ t) := readHalf_savedMemory w hfit hfill h hi ht hw hlast
  rcases Nat.eq_zero_or_pos i with rfl | h1
  · exact last (by omega) (saveAccess_kind e w) fun t' ht' _ => by omega
  rcases Nat.lt_or_ge 5 i with h6 | h5
  · obtain ⟨j, rfl⟩ := Nat.exists_eq_add_of_le (show 6 ≤ i from h6)
    refine (last (by omega) (saveAccess_write e w (j := j) (by omega)) fun t' _ hp => ?_).trans ?_
    · unfold writesPlace at hp
      omega
    · rw [word_append_right _ _ _ (by simp [newHeader])]
      congr 1
      simp [newHeader]
  · refine (last (by omega) (saveAccess_header e w h1 h5) fun t' _ hp => ?_).trans ?_
    · unfold writesPlace at hp
      omega
    · rw [word_append_left _ _ _ (by simp [newHeader]; omega)]
      obtain ⟨k, rfl⟩ := Nat.exists_eq_add_of_le h1
      rw [Nat.add_comm 1 k]
      rfl

end Accesses

end Sys2Proof.Machine
end

section
/-! PROOFS. The run of a journaled write (R24, R26, R47 to R49, R136): the state after each of its 41 commands. -/

namespace Sys2Proof.Machine

open Sys2Proof.Safety

/-! ## Runs -/

/-- A run goes on from the state that its first step leaves. -/
theorem run_succ (M : Host.Core) (n : Nat) {s t : M.State} (h : M.step s = .next t) :
    M.run (n + 1) s = M.run n t := by
  simp only [Host.Core.run, h]

/-- A run takes the command at the front of the queue. -/
theorem run_cons (n : Nat) {s t : State} {c : Instr} {rest : List Instr} (hq : s.pending = c :: rest)
    (h : exec c { s with pending := rest } = .next t) :
    Host.Core.run core (n + 1) s = Host.Core.run core n t := by
  refine run_succ core n ?_
  change step s = .next t
  rw [step, hq]
  exact h

/-! ## Causes and grants -/

/-- The level causes depend on the mode being HALTED and on the high mark and fill alone (R41, R157). -/
theorem heldLatches_congr {s t : State} (hm : haltedHolds t = haltedHolds s)
    (hh : t.engine.highMark = s.engine.highMark) (hf : t.engine.fill = s.engine.fill) :
    heldLatches t = heldLatches s := by
  have high : highHolds t = highHolds s := by rw [highHolds, highHolds, hh, hf]
  rw [heldLatches, heldLatches, hm, high]

/-- R157, R159: level causes renewed over latches that ALERT already follows. -/
theorem renew_of_follow {t : State} {u : CauseUnit} {l : BitVec 16}
    (h : t.causes = CauseUnit.follow { u with latches := l }) :
    (renew t).causes = CauseUnit.follow { u with latches := l ||| heldLatches t } := by
  rw [renew_causes, h]
  rfl

/-- R140: at an idle port the engine's request is granted when it alone waits. -/
theorem grant_engine {s : State} {x : MemAccess} (hb : s.port.busy = none) (hf : s.port.forward = none)
    (he : s.port.engine = some x) (hl : s.port.link = none) : grant s = grantTo .engine x s := by
  have first : s.port.next = some .engine := by
    cases hlast : s.port.last <;> simp [Port.next, rotation, Port.waiting, hlast, hf, he, hl]
  have waiting : s.port.waiting .engine = some x := he
  simp only [grant, hb, first, waiting]

/-- R140: a forward is granted when it alone waits. -/
theorem grant_forward {s : State} {x : MemAccess} (hb : s.port.busy = none) (hf : s.port.forward = some x)
    (he : s.port.engine = none) (hl : s.port.link = none) : grant s = grantTo .forward x s := by
  have first : s.port.next = some .forward := by
    cases hlast : s.port.last <;> simp [Port.next, rotation, Port.waiting, hlast, hf, he, hl]
  have waiting : s.port.waiting .forward = some x := hf
  simp only [grant, hb, first, waiting]

/-- R140: with no request waiting nothing is granted. -/
theorem grant_none {s : State} (hf : s.port.forward = none) (he : s.port.engine = none)
    (hl : s.port.link = none) : grant s = s := by
  have none_waits : s.port.next = none := by
    cases hlast : s.port.last <;> simp [Port.next, rotation, Port.waiting, hlast, hf, he, hl]
  unfold grant
  split
  · rfl
  · rw [none_waits]

/-! ## The save of a journaled write -/

/-- R47: the save that a journaled write begins, with the halfwords of its granule as they stand. -/
def journaledSave (s : State) (addr : HalfAddr) : SaveWork :=
  { granule := granuleOf addr
    prior := if TouchMap.level s.touch (granuleOf addr).toNat < s.engine.depth
      then TouchMap.level s.touch (granuleOf addr).toNat else s.engine.depth - 1
    done := 0
    data := (List.range 16).map fun j => readHalf s.memory (granuleAddr (granuleOf addr).toNat j) }

/-- R47: the write held for its save. -/
def savedWrite (s : State) (addr : HalfAddr) (lanes : Lanes) (data : Half) : HostAccess :=
  sampled addr .write lanes data (.held .save) (some s.host.holdLimit) none

/-- R140, R157: at an idle port where nothing else waits, the close of an event grants the engine's next access. -/
theorem settle_engine {s : State} {x : MemAccess} (hw : s.engine.wanted = some x) (hb : s.port.busy = none)
    (hf : s.port.forward = none) (hl : s.port.link = none) :
    settle s = { s with
      causes := (renew s).causes
      port := {
        busy := some { who := .engine, access := x, seen := readHalf s.memory x.addr, discard := false }
        last := s.port.last, forward := none, engine := none, link := none }
      memory := performAccess s.memory x } := by
  have idle : s.port.servesEngine = false := by simp [Port.servesEngine, hb]
  have request : (requestEngine (renew s)).port.engine = some x := by simp [idle, hw]
  rw [settle, grant_engine (s := requestEngine (renew s)) hb hf request hl]
  simp [grantTo, Port.drop, requestEngine, renew, hf, hl]

/-- R140, R157: at an idle port where the engine asks for nothing, the close of an event grants the forward. -/
theorem settle_forward {s : State} {x : MemAccess} (hw : s.engine.wanted = none) (hb : s.port.busy = none)
    (hf : s.port.forward = some x) (hl : s.port.link = none) :
    settle s = { s with
      causes := (renew s).causes
      port := {
        busy := some { who := .forward, access := x, seen := readHalf s.memory x.addr, discard := false }
        last := s.port.last, forward := none, engine := none, link := none }
      memory := performAccess s.memory x
      host := s.host.granted } := by
  have request : (requestEngine (renew s)).port.engine = none := by simp [hw]
  rw [settle, grant_forward (s := requestEngine (renew s)) hb hf request hl]
  simp [grantTo, Port.drop, requestEngine, renew, hw, hl]

/-- R140, R157: with no request at all the close of an event renews the level causes alone. -/
theorem settle_idle {s : State} (hw : s.engine.wanted = none) (hf : s.port.forward = none)
    (he : s.port.engine = none) (hl : s.port.link = none) :
    settle s = { s with causes := (renew s).causes } := by
  have request : (requestEngine (renew s)).port.engine = none := by simp [hw]
  have port : (requestEngine (renew s)).port = s.port := by simp [hw, ← he]
  rw [settle, grant_none (s := requestEngine (renew s)) hf request hl]
  simp [requestEngine, renew, hw, ← he]

/-! ## The arrival -/

/-- R47: the lookup of a granule not at the present depth, with a slot free, begins a save. -/
theorem lookupWrite_save {a : HostAccess} {s : State}
    (hlev : TouchMap.level s.touch (granuleOf a.addr).toNat ≠ s.engine.depth)
    (hfill : s.engine.fill < s.engine.slots) :
    lookupWrite a s = beginSave a (TouchMap.level s.touch (granuleOf a.addr).toNat) s := by
  simp only [lookupWrite, hlev, hfill, if_true, if_false]

/-- R24, R127: an arrival that classification sends to the touch map. -/
theorem arriveClassified_lookup {a : HostAccess} {s : State} (hc : classify s a.addr a.dir = .lookup) :
    arriveClassified a s = settle (lookupWrite a (takeArrival a s)) := by
  have class_eq : classify (takeArrival a s) a.addr a.dir = .lookup := hc
  rw [arriveClassified, class_eq]
  rfl

/-- R124, R127: a write that the port takes is classified in progress and treated. -/
theorem exec_arrive_write {s : State} {addr : HalfAddr} {lower upper : Bool} {data : Half} (hr : Ready s)
    (hl : (lower || upper) = true) :
    exec (.hostAccessArrive addr .write lower upper data) s = .next (arriveClassified
      (arrivedAccess addr .write { lower := lower, upper := upper } data) (setCycle true s)) := by
  obtain ⟨hrun, hcyc, hacc⟩ := hr
  simp only [exec, execHostAccessArrive, hcyc, hrun, hacc, arrive, hl]
  rfl

/-! ## The states of the save -/

/-- The state of a save while its access n is in progress at the port. -/
def savingState (s : State) (a : HostAccess) (w : SaveWork) (n : Nat) (rest : List Instr) : State :=
  { s with
    pending := rest
    engine := { s.engine with mode := .saving (w.upTo n) }
    host := { s.host with access := some a, rdy := false, cycle := true }
    port := {
      busy := (saveAccess s.engine w n).map fun x =>
        { who := .engine, access := x, seen := readHalf (savedMemory s.engine w s.memory n) x.addr
          discard := false }
      last := if n = 0 then s.port.last else .engine
      forward := none
      engine := none
      link := none }
    causes := (renew s).causes
    memory := savedMemory s.engine w s.memory (n + 1) }

/-- The same state before the close of its event: access n not yet granted. -/
def savingOpen (s : State) (a : HostAccess) (w : SaveWork) (n : Nat) (rest : List Instr) (c : CauseUnit) : State :=
  { savingState s a w n rest with
    port := { busy := none, last := if n = 0 then s.port.last else .engine, forward := none
              engine := none, link := none }
    causes := c
    memory := savedMemory s.engine w s.memory n }

/-- R48, R140, R157: the close of the event grants access n of the save. -/
theorem settle_savingOpen {s : State} {a : HostAccess} {w : SaveWork} {n : Nat} {rest : List Instr}
    {c : CauseUnit} (hm : s.engine.mode = .active) (hlen : w.data.length = 16) (hn : n ≤ 38)
    (hc : c = s.causes ∨ c = (renew s).causes) :
    settle (savingOpen s a w n rest c) = savingState s a w n rest := by
  obtain ⟨x, hx⟩ := saveAccess_isSome s.engine w hn
  have wanted : (savingOpen s a w n rest c).engine.wanted = some x :=
    (saveAccess_upTo s.engine w hlen n).trans hx
  have held : heldLatches (savingOpen s a w n rest c) = heldLatches s :=
    heldLatches_congr (by simp [haltedHolds, savingOpen, savingState, hm]) rfl rfl
  have causes : (renew (savingOpen s a w n rest c)).causes = (renew s).causes := by
    rcases hc with rfl | rfl
    · rw [renew_causes, held]
      rfl
    · rw [renew_of_follow (t := savingOpen s a w n rest (renew s).causes) (u := s.causes) rfl, held,
        BitVec.or_assoc, BitVec.or_self]
      rfl
  rw [settle_engine wanted rfl rfl rfl, causes]
  simp only [savingState, hx, Option.map_some, savedMemory_succ _ _ hx]
  rfl

/-- R140: an empty port holds the requester served last alone. -/
theorem port_eq_of_portEmpty {s : State} (h : PortEmpty s) :
    s.port = { busy := none, last := s.port.last, forward := none, engine := none, link := none } := by
  obtain ⟨hb, hf, he, hl⟩ := h
  cases hp : s.port
  simp_all

/-- R24, R47: a journaled write of a granule not yet saved at the present depth is held, and the save's first access is
granted. -/
theorem exec_journaledArrival {s : State} {addr : HalfAddr} {lower upper : Bool} {data : Half}
    (hr : Ready s) (hl : (lower || upper) = true) (hp : PortEmpty s)
    (hm : s.engine.mode = .active) (hc : classify s addr .write = .lookup)
    (hlev : TouchMap.level s.touch (granuleOf addr).toNat ≠ s.engine.depth)
    (hfill : s.engine.fill < s.engine.slots) :
    exec (.hostAccessArrive addr .write lower upper data) s
      = .next (savingState s (savedWrite s addr { lower := lower, upper := upper } data)
          (journaledSave s addr) 0 s.pending) := by
  rw [exec_arrive_write hr hl, arriveClassified_lookup (by exact hc),
    lookupWrite_save (by exact hlev) (by exact hfill),
    ← settle_savingOpen hm (by simp [journaledSave]) (Nat.zero_le 38) (.inl rfl)]
  congr 2
  unfold savingOpen
  rw [if_pos rfl, ← port_eq_of_portEmpty hp]
  rfl

/-! ## The accesses of the save -/

section Save
variable {s : State} {a : HostAccess} {w : SaveWork} {rest : List Instr}

/-- R139: the save's access n completes at the freed port. -/
theorem exec_savingState {n : Nat} (hrun : s.power = .running) (hn : n ≤ 38) :
    ∃ x, saveAccess s.engine w n = some x ∧
      exec .engineAccessComplete (savingState s a w n rest) = .next (settle
        (advanceSaving (readHalf (savedMemory s.engine w s.memory n) x.addr) (w.upTo n)
          (releasePort .engine (savingState s a w n rest)))) := by
  obtain ⟨x, hx⟩ := saveAccess_isSome s.engine w hn
  refine ⟨x, hx, ?_⟩
  refine (exec_engineAccess (savingState s a w n rest)
    { who := .engine, access := x, seen := readHalf (savedMemory s.engine w s.memory n) x.addr
      discard := false } hrun ?_ rfl).trans rfl
  simp [savingState, hx]

/-- R48: a granule read that completes joins the save's data. -/
theorem upTo_succ {n : Nat} {x : MemAccess} (hlen : w.data.length = 16)
    (hx : saveAccess s.engine w n = some x)
    (hread : ∀ j < 16, readHalf (savedMemory s.engine w s.memory n) (granuleAddr w.granule.toNat j)
      = word w.data j) :
    (if saveReads n then (w.upTo n).data ++ [readHalf (savedMemory s.engine w s.memory n) x.addr]
      else (w.upTo n).data) = (w.upTo (n + 1)).data := by
  simp only [SaveWork.upTo, saveReads, decide_eq_true_eq]
  split
  · rename_i hr
    obtain ⟨j, rfl⟩ : ∃ j, n = 2 * j + 1 := ⟨n / 2, by omega⟩
    have hj : j < 16 := by omega
    rw [saveAccess_read _ _ hj, Option.some.injEq] at hx
    subst hx
    rw [show (2 * j + 1) / 2 = j by omega, show (2 * j + 1 + 1) / 2 = j + 1 by omega, readAt, hread j hj,
      List.take_succ_eq_append_getElem (by omega), word, List.getD_eq_getElem _ _ (by omega)]
  · rename_i hr
    by_cases h32 : 32 ≤ n
    · rw [List.take_of_length_le (by omega), List.take_of_length_le (by omega)]
    · rw [show (n + 1) / 2 = n / 2 by omega]

/-- R48: each of the first 38 accesses of a save is followed by the next. -/
theorem exec_savingState_next {n : Nat} (hrun : s.power = .running) (hm : s.engine.mode = .active)
    (hlen : w.data.length = 16) (hn : n < 38)
    (hread : ∀ j < 16, readHalf (savedMemory s.engine w s.memory n) (granuleAddr w.granule.toNat j)
      = word w.data j) :
    exec .engineAccessComplete (savingState s a w n rest) = .next (savingState s a w (n + 1) rest) := by
  obtain ⟨x, hx, hexec⟩ := exec_savingState (s := s) (a := a) (w := w) (rest := rest) hrun
    (Nat.le_of_lt hn)
  have next : advanceSaving (readHalf (savedMemory s.engine w s.memory n) x.addr) (w.upTo n)
      (releasePort .engine (savingState s a w n rest))
        = savingOpen s a w (n + 1) rest (renew s).causes := by
    have hne : (w.upTo n).done ≠ 38 := Nat.ne_of_lt hn
    simp only [advanceSaving, hne, if_false]
    rw [show (w.upTo n).done = n from rfl, upTo_succ hlen hx hread]
    rfl
  rw [hexec, next, settle_savingOpen hm hlen (by omega) (.inr rfl)]

/-- A command in a save runs on the save's state with the queue's rest. -/
theorem run_savingState_cons {n : Nat} {c : Instr} {t : State} (k : Nat)
    (h : exec c (savingState s a w n rest) = .next t) :
    Host.Core.run core (k + 1) (savingState s a w n (c :: rest)) = Host.Core.run core k t :=
  run_cons k rfl h

/-- R48: from access n on, the save's accesses up to the kind write follow one another. -/
theorem run_savingState (hrun : s.power = .running) (hm : s.engine.mode = .active) (hlen : w.data.length = 16)
    (hread : ∀ n, ∀ j < 16, readHalf (savedMemory s.engine w s.memory n) (granuleAddr w.granule.toNat j)
      = word w.data j) (k m n : Nat) (hn : n + m = 38) :
    Host.Core.run core (m + k) (savingState s a w n (List.replicate m .engineAccessComplete ++ rest))
      = Host.Core.run core k (savingState s a w 38 rest) := by
  induction m generalizing n with
  | zero =>
    obtain rfl : n = 38 := hn
    simp
  | succ m ih =>
    rw [Nat.add_right_comm m 1 k]
    exact (run_savingState_cons (m + k) (exec_savingState_next hrun hm hlen (by omega) (hread n))).trans
      (ih (n + 1) (by omega))

end Save

/-! ## The kind write and the forward -/

/-- The level causes of the journal with one entry more (R41, R157). -/
def filledLatches (s : State) : BitVec 16 :=
  heldLatches { s with engine := { s.engine with fill := s.engine.fill + 1 } }

/-- R41: JOURNAL_HIGH's condition that holds at a fill holds at a higher one. -/
theorem heldLatches_or_filled (s : State) : heldLatches s ||| filledLatches s = filledLatches s := by
  have same : haltedHolds { s with engine := { s.engine with fill := s.engine.fill + 1 } } = haltedHolds s :=
    rfl
  have mono : highHolds s = true →
      highHolds { s with engine := { s.engine with fill := s.engine.fill + 1 } } = true := by
    simp only [highHolds, decide_eq_true_eq]
    omega
  simp only [filledLatches, heldLatches, same]
  by_cases hh : highHolds s = true
  · rw [if_pos hh, if_pos (mono hh), BitVec.or_self]
  · rw [if_neg hh, BitVec.or_zero, ← BitVec.or_assoc, BitVec.or_self]

/-- The state of a journaled write whose save is complete, with the memory `m` that the save has left, while its
forward is in progress at the port. -/
def storedState (s : State) (a : HostAccess) (w : SaveWork) (m : Memory) (rest : List Instr) : State :=
  { s with
    pending := rest
    engine := { s.engine with mode := .saving (w.upTo 39), fill := s.engine.fill + 1 }
    touch := TouchMap.set s.touch w.granule.toNat s.engine.depth
    host := { s.host with
      access := some { a with stage := .granted, timer := none, watch := none }, rdy := false, cycle := true }
    port := {
      busy := some { who := .forward, access := forwardAccess a, seen := readHalf m a.addr, discard := false }
      last := .engine, forward := none, engine := none, link := none }
    causes := CauseUnit.follow { s.causes with latches := s.causes.latches ||| filledLatches s }
    memory := performAccess m (forwardAccess a) }

/-- The same with the forward of the write requested and not yet granted. -/
def storedOpen (s : State) (a : HostAccess) (w : SaveWork) (m : Memory) (rest : List Instr) : State :=
  { storedState s a w m rest with
    host := { s.host with
      access := some { a with stage := .forwarding, watch := none }, rdy := false, cycle := true }
    port := { busy := none, last := .engine, forward := some (forwardAccess a), engine := none, link := none }
    causes := (renew s).causes
    memory := m }

/-- R49: the write that the save served goes forward. -/
theorem saveWritten_held {s : State} {a : HostAccess} (h : s.host.access = some a) (ha : a.stage = .held .save) :
    saveWritten s = requestForward none a s := by
  simp only [saveWritten, h, ha, if_true]

/-- R26, R48: what the kind write of a save brings. -/
theorem advanceSaving_kind (v : Half) {w : SaveWork} (h : w.done = 38) (s : State) :
    advanceSaving v w s = saveWritten (setMode (.saving { w with done := 39 })
      (setLevel w.granule.toNat s.engine.depth (setFill (s.engine.fill + 1) s))) := by
  have reads : saveReads 38 = false := rfl
  simp only [advanceSaving, h, if_true, reads, Bool.false_eq_true, if_false]

/-- R26, R48, R49: the kind write brings fill and the granule's level up together and sends the write forward. -/
theorem advanceSaving_savingState (v : Half) (s : State) {a : HostAccess} (w : SaveWork) (rest : List Instr)
    (ha : a.stage = .held .save) :
    advanceSaving v (w.upTo 38) (releasePort .engine (savingState s a w 38 rest))
      = storedOpen s a w (savedMemory s.engine w s.memory (38 + 1)) rest := by
  rw [advanceSaving_kind v rfl, saveWritten_held (a := a) rfl ha]
  unfold savingState
  generalize savedMemory s.engine w s.memory (38 + 1) = m
  generalize savedMemory s.engine w s.memory 38 = m'
  rfl

theorem settle_storedOpen {s : State} (hm : s.engine.mode = .active) (a : HostAccess) (w : SaveWork) (m : Memory)
    (rest : List Instr) : settle (storedOpen s a w m rest) = storedState s a w m rest := by
  have wanted : (storedOpen s a w m rest).engine.wanted = none :=
    saveAccess_none (storedOpen s a w m rest).engine (w.upTo 39) (Nat.le_refl 39)
  have held : heldLatches (storedOpen s a w m rest) = filledLatches s :=
    heldLatches_congr (by simp [haltedHolds, storedOpen, storedState, hm]) rfl rfl
  have causes : (renew (storedOpen s a w m rest)).causes
      = CauseUnit.follow { s.causes with latches := s.causes.latches ||| filledLatches s } := by
    rw [renew_of_follow (u := s.causes) (l := s.causes.latches ||| heldLatches s) rfl, held,
      BitVec.or_assoc, heldLatches_or_filled]
  rw [settle_forward (x := forwardAccess a) wanted rfl rfl rfl, causes]
  rfl

/-- R26, R48, R49: the kind write completes, and the forward of the write that waits for the save is granted. -/
theorem exec_savingState_kind {s : State} {a : HostAccess} {w : SaveWork} {rest : List Instr}
    (hrun : s.power = .running) (hm : s.engine.mode = .active) (ha : a.stage = .held .save) :
    exec .engineAccessComplete (savingState s a w 38 rest)
      = .next (storedState s a w (savedMemory s.engine w s.memory (38 + 1)) rest) := by
  obtain ⟨x, -, hexec⟩ := exec_savingState (s := s) (a := a) (w := w) (rest := rest) (n := 38) hrun
    (Nat.le_refl 38)
  rw [hexec, advanceSaving_savingState _ s w rest ha, settle_storedOpen hm]

/-- R36, R69: with no request pending and no access in progress an operation ends in ACTIVE and nothing follows. -/
theorem enterActive_idle {s : State} (hu : s.engine.undoPending = false) (hk : s.engine.markPending = false)
    (ha : s.host.access = none) : enterActive s = setMode .active s := by
  have active_access : (setMode .active s).host.access = none := ha
  simp only [enterActive, setMode_engine, hu, Bool.false_eq_true, if_false, restActive, hk, resolveHeld,
    active_access]

/-- The state after a journaled write: one entry more, the granule's level at depth, the access answered, and the
memory `m`. -/
def writtenState (s : State) (g : Nat) (m : Memory) (rest : List Instr) : State :=
  { s with
    pending := rest
    engine := { s.engine with fill := s.engine.fill + 1 }
    touch := TouchMap.set s.touch g s.engine.depth
    host := { s.host with access := none, cycle := true, rdy := true, nBerr := true, dout := none }
    port := { busy := none, last := .forward, forward := none, engine := none, link := none }
    causes := CauseUnit.follow { s.causes with latches := s.causes.latches ||| filledLatches s }
    memory := m }

/-- R49, R125, R128: the completed forward of a write without a WATCH record answers the access and ends its save. -/
theorem forwardDone_saved {s : State} {a : HostAccess} {w : SaveWork} (v : Half) (hd : a.dir = .write)
    (hw : a.watch = none) (hm : s.engine.mode = .saving w) (hdone : 39 ≤ w.done) :
    forwardDone a v s = enterActive (answer true none a s) := by
  have saving : (answer true none a s).engine.mode = .saving w := hm
  have write : a.dir ≠ .read := by simp [hd]
  simp only [forwardDone, watchRecord, hw, write, if_false, savingServed, saving, hdone, if_true]

/-- R49, R125, R136: the forward of the saved write completes: the access is answered, and the engine rests in ACTIVE. -/
theorem exec_storedState {s : State} {a : HostAccess} {w : SaveWork} {m : Memory} {rest : List Instr}
    (hrun : s.power = .running) (hm : s.engine.mode = .active) (hu : s.engine.undoPending = false)
    (hk : s.engine.markPending = false) (hd : a.dir = .write) (hab : a.abandoned = false) :
    exec .forwardComplete (storedState s a w m rest)
      = .next (writtenState s w.granule.toNat (performAccess m (forwardAccess a)) rest) := by
  have completes : exec .forwardComplete (storedState s a w m rest) = .next (settle (forwardDone
      { a with stage := .granted, timer := none, watch := none } (readHalf m a.addr)
      (releasePort .forward (storedState s a w m rest)))) := by
    simp [exec, execForwardComplete, storedState, hrun]
  have engine : { s.engine with mode := .active, fill := s.engine.fill + 1 }
      = { s.engine with fill := s.engine.fill + 1 } := by
    rw [← hm]
  have ended : forwardDone { a with stage := .granted, timer := none, watch := none } (readHalf m a.addr)
      (releasePort .forward (storedState s a w m rest))
        = writtenState s w.granule.toNat (performAccess m (forwardAccess a)) rest := by
    rw [forwardDone_saved (w := w.upTo 39) _ (by exact hd) rfl (by rfl) (Nat.le_refl 39),
      enterActive_idle (by exact hu) (by exact hk) rfl,
      writtenState, ← engine]
    simp only [answer, hab]
    rfl
  have wanted : (writtenState s w.granule.toNat (performAccess m (forwardAccess a)) rest).engine.wanted
      = none := by
    simp [writtenState, Engine.wanted, hm]
  have causes : (renew (writtenState s w.granule.toNat (performAccess m (forwardAccess a)) rest)).causes
      = (writtenState s w.granule.toNat (performAccess m (forwardAccess a)) rest).causes := by
    have held : heldLatches (writtenState s w.granule.toNat (performAccess m (forwardAccess a)) rest)
        = filledLatches s := heldLatches_congr rfl rfl rfl
    rw [renew_of_follow (u := s.causes) (l := s.causes.latches ||| filledLatches s) rfl, held,
      BitVec.or_assoc, BitVec.or_self]
    rfl
  rw [completes, ended, settle_idle wanted rfl rfl rfl, causes]

/-! ## The whole run -/

theorem word_journaledSave (s : State) (addr : HalfAddr) {j : Nat} (hj : j < 16) :
    word (journaledSave s addr).data j = readHalf s.memory (granuleAddr (granuleOf addr).toNat j) := by
  simp [word, journaledSave, hj]

/-- R77: a save leaves its granule as it stands, where the granule shares no byte with the area. -/
theorem readHalf_granule_savedMemory {e : Engine} (w w' : SaveWork) {m : Memory} (hwf : Memory.wf m)
    (hfit : e.base * 1024 + 128 + 44 * e.slots ≤ 1048576) (hfill : e.fill < e.slots)
    (hout : granuleMeetsArea e.base e.slots w.granule.toNat = false) (n : Nat) {j : Nat} (hj : j < 16) :
    readHalf (savedMemory e w' m n) (granuleAddr w.granule.toNat j)
      = readHalf m (granuleAddr w.granule.toNat j) := by
  refine readHalf_eq_of_read_eq fun b hb => read_savedMemory_outside w' hfit hfill hwf n b ?_
  have apart := outside_of_granuleMeetsArea (show e.slots ≠ 0 by omega) hout
  rw [granuleAddr_toNat w.granule.isLt hj] at hb
  omega

theorem run_storedState {s : State} {a : HostAccess} {w : SaveWork} {m : Memory} {rest : List Instr}
    (hrun : s.power = .running) (hm : s.engine.mode = .active) (hu : s.engine.undoPending = false)
    (hk : s.engine.markPending = false) (hd : a.dir = .write) (hab : a.abandoned = false) :
    Host.Core.run core 1 (storedState s a w m (.forwardComplete :: rest))
      = .next (writtenState s w.granule.toNat (performAccess m (forwardAccess a)) rest) :=
  run_cons 0 rfl (exec_storedState (s := s) (a := a) (w := w) (m := m) (rest := rest) hrun hm hu hk hd hab)

/-- R26, R48, R49: from the first access of the save to the completion of the forward. -/
theorem run_savedWrite {s : State} {a : HostAccess} {w : SaveWork} {rest : List Instr}
    (hrun : s.power = .running) (hm : s.engine.mode = .active) (hu : s.engine.undoPending = false)
    (hk : s.engine.markPending = false) (hlen : w.data.length = 16)
    (hread : ∀ n, ∀ j < 16, readHalf (savedMemory s.engine w s.memory n) (granuleAddr w.granule.toNat j)
      = word w.data j)
    (ha : a.stage = .held .save) (hd : a.dir = .write) (hab : a.abandoned = false) :
    Host.Core.run core 40 (savingState s a w 0
        (List.replicate 39 .engineAccessComplete ++ .forwardComplete :: rest))
      = .next (writtenState s w.granule.toNat
          (performAccess (savedMemory s.engine w s.memory (38 + 1)) (forwardAccess a)) rest) := by
  have saves := run_savingState (a := a) (rest := .engineAccessComplete :: .forwardComplete :: rest)
    hrun hm hlen hread 2 38 0 rfl
  have kind : Host.Core.run core 2 (savingState s a w 38 (.engineAccessComplete :: .forwardComplete :: rest))
      = Host.Core.run core 1
          (storedState s a w (savedMemory s.engine w s.memory (38 + 1)) (.forwardComplete :: rest)) :=
    run_savingState_cons 1 (exec_savingState_kind hrun hm ha)
  exact saves.trans (kind.trans (run_storedState (s := s) (a := a) (w := w) hrun hm hu hk hd hab))

/-- R24, R26, R47 to R49, R136: from its arrival to the completion of its forward. -/
theorem run_journaledWrite {s : State} {addr : HalfAddr} {lower upper : Bool} {data : Half} {rest : List Instr}
    (hq : s.pending = .hostAccessArrive addr .write lower upper data
      :: (List.replicate 39 .engineAccessComplete ++ .forwardComplete :: rest))
    (hr : Ready s) (hl : (lower || upper) = true) (hp : PortEmpty s) (hwf : MemoryForm s)
    (hfit : s.engine.base * 1024 + 128 + 44 * s.engine.slots ≤ 1048576)
    (hu : s.engine.undoPending = false) (hk : s.engine.markPending = false)
    (hc : classify s addr .write = .lookup)
    (hlev : TouchMap.level s.touch (granuleOf addr).toNat ≠ s.engine.depth)
    (hfill : s.engine.fill < s.engine.slots)
    (hout : granuleMeetsArea s.engine.base s.engine.slots (granuleOf addr).toNat = false) :
    Host.Core.run core 41 s = .next (writtenState s (granuleOf addr).toNat
      (performAccess (savedMemory s.engine (journaledSave s addr) s.memory (38 + 1))
        { addr := addr, data := some data, lanes := { lower := lower, upper := upper } }) rest) := by
  have hm : s.engine.mode = .active := by
    by_contra hm
    exact classify_ne_lookup s addr .write hm hc
  have hrun := hr.1
  have hlen : (journaledSave s addr).data.length = 16 := by simp [journaledSave]
  have hread (n j : Nat) (hj : j < 16) :
      readHalf (savedMemory s.engine (journaledSave s addr) s.memory n)
        (granuleAddr (journaledSave s addr).granule.toNat j) = word (journaledSave s addr).data j := by
    rw [word_journaledSave s addr hj]
    exact readHalf_granule_savedMemory (journaledSave s addr) (journaledSave s addr) hwf hfit hfill hout n hj
  have arrival := run_cons 40 hq (exec_journaledArrival
    (s := { s with pending := List.replicate 39 .engineAccessComplete ++ .forwardComplete :: rest })
    hr hl hp hm hc hlev hfill)
  have rest_of_run := run_savedWrite (s := s)
    (a := savedWrite s addr { lower := lower, upper := upper } data) (rest := rest) hrun hm hu hk hlen hread
    rfl rfl rfl
  exact arrival.trans rest_of_run

end Sys2Proof.Machine
end

section
namespace Sys2Proof.Machine

open Sys2Proof.Safety

/-- R3, R77: a host write into a granule that shares no byte with the area leaves a slot's halfwords. -/
theorem readHalf_slot_performAccess {m : Memory} (hwf : Memory.wf m) {base k i slots : Nat}
    (hfit : base * 1024 + 128 + 44 * slots ≤ 1048576) (hk : k < slots) (hi : i < 22) {x : MemAccess} {v : Half}
    (hx : x.data = some v) (hout : granuleMeetsArea base slots (granuleOf x.addr).toNat = false) :
    readHalf (performAccess m x) (slotAddr base k i) = readHalf m (slotAddr base k i) := by
  refine readHalf_eq_of_read_eq fun b hb => ?_
  have apart := outside_of_granuleMeetsArea (show slots ≠ 0 by omega) hout
  rw [granuleOf_toNat] at apart
  rw [slotAddr_toNat hfit hk hi] at hb
  rw [read_performAccess m hwf x v hx, if_neg]
  simp only [storesTo, Bool.and_eq_true, Bool.or_eq_true, beq_iff_eq]
  omega

/-- R136, R140, R157: the written state in the terms of the state before the run. -/
theorem writtenState_eq {s : State} (hr : Ready s) (hp : PortEmpty s) (g : Nat) (m : Memory)
    (rest : List Instr) :
    writtenState s g m rest = { s with
      pending := rest
      engine := { s.engine with fill := s.engine.fill + 1 }
      touch := TouchMap.set s.touch g s.engine.stack.length
      host := { s.host with cycle := true, rdy := true, nBerr := true, dout := none }
      port := { s.port with last := .forward }
      causes := CauseUnit.follow { s.causes with
        latches := s.causes.latches ||| heldLatches (writtenState s g m rest) }
      memory := m } := by
  have held : heldLatches (writtenState s g m rest) = filledLatches s := heldLatches_congr rfl rfl rfl
  rw [held, port_eq_of_portEmpty hp]
  unfold writtenState
  rw [← hr.2.2]
  rfl

end Sys2Proof.Machine

open Sys2Proof Sys2Proof.Machine Sys2Proof.Safety

/-- Settles O59: the run ends in `writtenState`, over a memory with the saved slot and the write's bytes. -/
theorem journaledWriteRun : Obligations.JournaledWriteRun := by
  intro s addr lower upper data rest hq hr hl hp hwf hblock hk hu hc
  dsimp only
  rw [← granuleOf_toNat addr]
  intro hlev hfill hout
  obtain ⟨-, -, -, -, -, hslots, -⟩ := hblock
  have hfit : s.engine.base * 1024 + 128 + 44 * s.engine.slots ≤ 1048576 := by omega
  have saved_wf : Memory.wf (savedMemory s.engine (journaledSave s addr) s.memory (38 + 1)) :=
    wf_savedMemory _ _ hwf _
  have slot_bytes (i : Nat) (hi : i < 22) :=
    readHalf_savedSlot (journaledSave s addr) hfit hfill hwf hi
  have outside (a : Nat) := read_savedMemory_outside (journaledSave s addr) hfit hfill hwf (38 + 1) a
  refine ⟨_, run_journaledWrite hq hr hl hp hwf hfit hu hk hc hlev hfill hout, ?_⟩
  generalize savedMemory s.engine (journaledSave s addr) s.memory (38 + 1) = m at *
  refine ⟨writtenState_eq hr hp _ _ rest, fun i hi => ?_, fun a ha => ?_⟩
  · have place : BitVec.ofNat 19 ((s.engine.base * 1024 + 128 + 44 * s.engine.fill) / 2 + i)
        = slotAddr s.engine.base s.engine.fill i := by
      unfold slotAddr
      congr 1
      omega
    rw [place]
    have kept := readHalf_slot_performAccess saved_wf hfit hfill hi
      (x := { addr := addr, data := some data, lanes := { lower := lower, upper := upper } }) rfl hout
    exact kept.trans (slot_bytes i hi)
  · rw [← outside a ha]
    exact read_performAccess m saved_wf ⟨addr, some data, lower, upper⟩ data rfl a
end

section
/-! PROOFS. The lookup of a journaled write (R24, R47, R52, R53), an access classified afresh (R132, R149), the end of a
save (R26, R48, R49), the two sweeps (R30, R31), and the ends of operations (R36, R69, R70). -/

namespace Sys2Proof.Machine

open Sys2Proof.Safety

/-! ## The lookup -/

section Lookup
variable {a : HostAccess} {s : State}

/-- R24: a write into a granule saved at the present depth goes forward. -/
theorem lookupWrite_forward (hlev : TouchMap.level s.touch (granuleOf a.addr).toNat = s.engine.depth) :
    lookupWrite a s = requestForward none a s := by
  simp only [lookupWrite, hlev, if_true]

/-- R52, R53: with the journal full the overflow policy decides. -/
theorem lookupWrite_full (hlev : TouchMap.level s.touch (granuleOf a.addr).toNat ≠ s.engine.depth)
    (hfill : s.engine.slots ≤ s.engine.fill) :
    lookupWrite a s = if s.engine.policy = .refuse then refuseFull a s else beginBreak a s := by
  simp only [lookupWrite, hlev, Nat.not_lt.2 hfill, if_false]
  cases s.engine.policy <;> rfl

end Lookup

/-- R53: the BROKEN head write goes into the copy that is not current. -/
theorem newHeadWrite_eq (journalState epoch : Half) (s : State) : newHeadWrite journalState epoch s
    = HeadWrite.mk (if s.engine.current = some .a then .b else .a)
        (headWords (s.engine.headSequence + 1) epoch s.engine.slots journalState s.regions.entries.toList) 0 := by
  rw [newHeadWrite, targetCopy_eq]

/-- R24, R25, R47, R52, R53, R133: the four outcomes of a lookup. -/
theorem lookupOfAnyWrite : Claims.LookupOfAnyWrite := by
  intro s a
  dsimp only
  rw [← granuleOf_toNat a.addr]
  refine ⟨fun hlev => ?_, fun hlev hfill => ?_, fun hlev hfill hpol => ?_, fun hlev hfill hpol => ?_⟩
  · rw [lookupWrite_forward hlev]
    rfl
  · rw [lookupWrite_save hlev hfill, BitVec.ofNat_toNat, BitVec.setWidth_eq]
    rfl
  · rw [lookupWrite_full hlev hfill, if_pos hpol]
    rfl
  · rw [lookupWrite_full hlev hfill, if_neg (by simp [hpol]), beginBreak, newHeadWrite_eq]
    rfl

/-- R24, R124: the arrival of a journaled write is its lookup, with the access in progress. -/
theorem exec_arrive_lookup {s : State} {addr : HalfAddr} {lower upper : Bool} {data : Half} (hr : Ready s)
    (hl : (lower || upper) = true) (hc : classify s addr .write = .lookup) :
    exec (.hostAccessArrive addr .write lower upper data) s = .next (settle (lookupWrite
      (sampled addr .write { lower := lower, upper := upper } data .forwarding none none)
      (inProgress (sampled addr .write { lower := lower, upper := upper } data .forwarding none none) s))) := by
  rw [exec_arrive_write hr hl, arriveClassified_lookup (by exact hc)]
  rfl

theorem lookupAtArrival : Claims.LookupAtArrival := by
  intro s addr lower upper data hr hl hc
  dsimp only
  rw [exec_arrive_lookup hr hl hc]
  obtain ⟨forwards, saves, refuses, breaks⟩ := lookupOfAnyWrite
    (inProgress (sampled addr .write { lower := lower, upper := upper } data .forwarding none none) s)
    (sampled addr .write { lower := lower, upper := upper } data .forwarding none none)
  refine ⟨fun hlev => ?_, fun hlev hfill => ?_, fun hlev hfill hpol => ?_, fun hlev hfill hpol => ?_⟩
  · rw [forwards hlev]
    rfl
  · rw [saves hlev hfill]
    rfl
  · rw [refuses hlev hfill hpol]
  · rw [breaks hlev hfill hpol]
    rfl

/-! ## Classified afresh -/

section Afresh
variable {s : State} {a : HostAccess} (ha : s.host.access = some a)
include ha

/-- R132: an access held by an operation is treated by its classification in the state entered. -/
theorem resolveHeld_of_held (hst : a.stage = .held .engine) :
    resolveHeld s = treat (classify s a.addr a.dir) a s := by
  simp only [resolveHeld, ha, hst]

/-- R53, R132: the trigger of a break goes forward in BROKEN. -/
theorem resolveHeld_of_breakEnd (hst : a.stage = .held .breakEnd) (hm : s.engine.mode = .broken) :
    resolveHeld s = requestForward none a s := by
  simp only [resolveHeld, ha, hst, hm, if_true]

/-- R132: an access that waits for no operation and no break stays. -/
theorem resolveHeld_of_unheld (hst : a.stage = .forwarding ∨ a.stage = .granted ∨ a.stage = .held .save) :
    resolveHeld s = s := by
  rcases hst with hst | hst | hst <;> simp only [resolveHeld, ha, hst]

/-- R149: a forward not yet granted is withdrawn and its access treated by its classification. -/
theorem reclassifyWaiting_of_forwarding (hst : a.stage = .forwarding) :
    reclassifyWaiting s = treat (classify s a.addr a.dir) a (withdrawForward s) := by
  simp only [reclassifyWaiting, ha, hst]

/-- R149: an access whose forward does not wait stays. -/
theorem reclassifyWaiting_of_not_forwarding (hst : a.stage ≠ .forwarding) : reclassifyWaiting s = s := by
  cases hs : a.stage with
  | forwarding => exact absurd hs hst
  | _ => simp only [reclassifyWaiting, ha, hs]

end Afresh

/-! ## The completion of a save's access -/

/-- R48: the odd accesses below 32 are the reads of the granule. -/
theorem saveReads_iff (n : Nat) : saveReads n = true ↔ n % 2 = 1 ∧ n < 32 := by
  unfold saveReads
  rw [decide_eq_true_eq]
  omega

/-- R48: before the kind write the save goes on to its next access. -/
theorem advanceSaving_of_lt (v : Half) {w : SaveWork} (h : w.done < 38) (s : State) :
    advanceSaving v w s = setMode (.saving { w with
      done := w.done + 1
      data := if w.done % 2 = 1 ∧ w.done < 32 then w.data ++ [v] else w.data }) s := by
  have hne : w.done ≠ 38 := by omega
  simp only [advanceSaving, hne, if_false, saveReads_iff]

/-- R49: a stored save that no write waits for ends in ACTIVE. -/
theorem saveWritten_unheld {s : State} (h : ∀ a ∈ s.host.access, a.stage ≠ .held .save) :
    saveWritten s = enterActive s := by
  unfold saveWritten
  split
  · rfl
  · rename_i a ha
    rw [if_neg (h a ha)]

/-! ## The sweeps -/

/-- R31: the completion of a clear sweep. -/
theorem exec_clearSweep {s t : State} (hp : s.power = .running) (h : clearSweep s = some t) :
    exec .clearSweepComplete s = .next (settle t) := by
  simp only [exec, execClearSweepComplete, hp, if_true, h]

/-- R45, R95, R103: after the clear sweep the wipe, with slots configured and a new epoch of 1, or the head write. -/
theorem buildAfterSweep_eq (epoch : Half) (s : State) : buildAfterSweep epoch s
    = if epoch = 1#16 ∧ s.engine.slots ≠ 0 then .wipe 0 else .writeHead (newHeadWrite 1#16 epoch s) := by
  simp only [buildAfterSweep, Nat.pos_iff_ne_zero]
  rfl

/-- R30, R63: the completion of RELEASING's relabel sweep. -/
theorem exec_relabelSweep {s : State} (hp : s.power = .running) (hm : s.engine.mode = .releasing .sweep) :
    exec .relabelSweepComplete s = .next (settle { s with
      engine := { s.engine with mode := .releasing .writeKind }
      touch := TouchMap.relabel s.touch s.engine.depth }) := by
  simp only [exec, execRelabelSweepComplete, hp, if_true, relabelSweep, hm]
  rfl

/-- A map in its form lists no level 0, so that relabelling level 0 leaves it as it is. -/
theorem TouchMap.relabel_zero {t : TouchMap} (h : TouchMap.wf t) : TouchMap.relabel t 0 = t := by
  obtain ⟨-, hlisted⟩ := h
  unfold TouchMap.relabel
  refine (List.filterMap_congr fun e he => ?_).trans List.filterMap_some
  obtain ⟨-, hlevel⟩ := hlisted e he
  simp [hlevel]

/-- R30: the relabel sweep at any depth. -/
theorem TouchMap.level_relabel_any {t : TouchMap} (h : TouchMap.wf t) (d g : Nat) :
    TouchMap.level (TouchMap.relabel t d) g
      = if TouchMap.level t g = d then d - 1 else TouchMap.level t g := by
  by_cases hd : d = 0
  · subst hd
    rw [TouchMap.relabel_zero h]
    split
    · assumption
    · rfl
  · exact TouchMap.level_relabel t d h hd g

theorem clearSweepCompletes : Claims.ClearSweepCompletes := by
  intro s hp
  dsimp only
  refine ⟨fun epoch hm => ?_, fun epoch hm => ?_, fun hm => ?_, fun hm => ?_, fun _ g => TouchMap.level_nil g⟩ <;>
    refine (exec_clearSweep hp (by simp only [clearSweep, hm]; rfl)).trans ?_
  · rw [buildAfterSweep_eq]
    rfl
  · rw [buildAfterSweep_eq]
    rfl
  · rfl
  · rfl

theorem relabelSweepCompletes : Claims.RelabelSweepCompletes := by
  intro s hp hm ht
  obtain ⟨hwf, -⟩ := ht
  exact ⟨_, exec_relabelSweep hp hm, fun g => TouchMap.level_relabel_any hwf _ g⟩

/-! ## The ends of operations -/

/-- R69: with no UNDO pending the engine rests in ACTIVE. -/
theorem enterActive_of_no_undo {s : State} (hu : s.engine.undoPending = false) :
    enterActive s = restActive (setMode .active s) := by
  simp only [enterActive, setMode_engine, hu, Bool.false_eq_true, if_false]

/-- R69, R74, R149: what a pending UNDO begins as an operation ends in ACTIVE. -/
def pendingUndo (s : State) : State := reclassifyWaiting (enterUndoing false (setUndoPending false (setMode .active s)))

/-- R69, R75: a pending UNDO begins, and ends at its entry when fill has come down to the top checkpoint. -/
theorem enterActive_of_undo {s : State} (hu : s.engine.undoPending = true) :
    enterActive s = if s.engine.fill ≤ s.engine.topPosition then restActive (undoNormal (pendingUndo s))
      else resolveHeld (pendingUndo s) := by
  have target : atTarget (pendingUndo s) = true ↔ s.engine.fill ≤ s.engine.topPosition := by
    simp [atTarget, pendingUndo, Engine.topPosition]
  simp only [enterActive, setMode_engine, hu, if_true]
  rw [← pendingUndo]
  simp only [target]

/-- R81: with no UNDO pending the normal end of an undo is its entry into ACTIVE. -/
theorem enterActive_undoEnd {s : State} (hu : s.engine.undoPending = false) :
    enterActive (raise .undoEnd (setUndoOutcome .normal s)) = restActive (undoNormal s) :=
  enterActive_of_no_undo hu

/-- R69: with no MARK pending the held access is classified afresh. -/
theorem restActive_of_no_mark {s : State} (hk : s.engine.markPending = false) : restActive s = resolveHeld s := by
  simp only [restActive, hk, Bool.false_eq_true, if_false]

/-- R59: a MARK passes with a checkpoint and a slot free. -/
theorem markTest_pass {e : Engine} (h4 : e.depth < 4) (hf : e.fill < e.slots) : markTest e = .pass := by
  rw [markTest, if_neg (Nat.not_le.2 h4), if_neg (Nat.not_le.2 hf)]

/-- R59: depth is tested first. -/
theorem markTest_depth {e : Engine} (h4 : 4 ≤ e.depth) : markTest e = .depth := if_pos h4

theorem markTest_full {e : Engine} (h4 : e.depth < 4) (hf : e.slots ≤ e.fill) : markTest e = .full := by
  rw [markTest, if_neg (Nat.not_le.2 h4), if_pos hf]

/-- R59, R69: a pending MARK that passes its tests begins. -/
theorem restActive_of_mark {s : State} (hk : s.engine.markPending = true) (h4 : s.engine.depth < 4)
    (hf : s.engine.fill < s.engine.slots) :
    restActive s = resolveHeld (beginMark 0xFFFF#16 (setMarkPending false s)) := by
  have passes : markTest (setMarkPending false s).engine = .pass := markTest_pass h4 hf
  simp only [restActive, hk, if_true, passes]

/-- R59, R69: a pending MARK at full depth is refused. -/
theorem restActive_of_mark_depth {s : State} (hk : s.engine.markPending = true) (h4 : 4 ≤ s.engine.depth) :
    restActive s = resolveHeld (raise .requestRefused (setMarkPending false s)) := by
  have fails : markTest (setMarkPending false s).engine = .depth := markTest_depth h4
  simp only [restActive, hk, if_true, fails, refuseMarkRequest]

/-- R59, R69: a pending MARK below full depth that finds no slot free is refused with JOURNAL_FULL. -/
theorem restActive_of_mark_full {s : State} (hk : s.engine.markPending = true) (h4 : s.engine.depth < 4)
    (hf : s.engine.slots ≤ s.engine.fill) :
    restActive s = resolveHeld (raise .journalFull (raise .requestRefused (setMarkPending false s))) := by
  have fails : markTest (setMarkPending false s).engine = .full := markTest_full h4 hf
  simp only [restActive, hk, if_true, fails, refuseMarkRequest]

theorem setMarkPending_of_clear {s : State} (h : s.engine.markPending = false) : setMarkPending false s = s := by
  rw [← h]
  rfl

theorem setUndoPending_of_clear {s : State} (h : s.engine.undoPending = false) : setUndoPending false s = s := by
  rw [← h]
  rfl

theorem entryToActive : Claims.EntryToActive := by
  intro s
  dsimp only
  have cleared (hu : s.engine.undoPending = false) :
      setUndoPending false (setMarkPending false (setMode .active s)) = setMarkPending false (setMode .active s) :=
    setUndoPending_of_clear hu
  refine ⟨fun hk hu => ?_, fun hu hfill => ?_, fun hu hfill => ?_, fun hk hu h4 hfill => ?_,
    fun hk hu h4 => ?_, fun hk hu h4 hfill => ?_⟩
  · have unmarked : setMarkPending false (setMode .active s) = setMode .active s := setMarkPending_of_clear hk
    rw [enterActive_of_no_undo hu, restActive_of_no_mark (by exact hk), ← unmarked, ← cleared hu]
    rfl
  · rw [enterActive_of_undo hu, if_neg (Nat.not_le.2 hfill)]
    rfl
  · have taken : (pendingUndo s).engine.undoPending = false := by simp [pendingUndo]
    rw [enterActive_of_undo hu, if_pos hfill, ← enterActive_undoEnd taken]
    rfl
  · rw [enterActive_of_no_undo hu, restActive_of_mark (by exact hk) (by exact h4) (by exact hfill)]
    rfl
  · rw [enterActive_of_no_undo hu, restActive_of_mark_depth (by exact hk) (by exact h4), ← cleared hu]
    rfl
  · rw [enterActive_of_no_undo hu, restActive_of_mark_full (by exact hk) (by exact h4) (by exact hfill),
      ← cleared hu]
    rfl

/-! ### A write held at the end -/

/-- R127, R129: outside the head phase an access that a JOURNAL entry decides is treated by the engine's state. -/
theorem classify_of_journaled {s : State} {a : HalfAddr} (d : Direction) (hj : journaled s a = true)
    (hb : s.regions.areaBase = s.engine.base) (hs : s.regions.areaSlots = s.engine.slots)
    (hh : s.engine.mode.headPhase = false) : classify s a d = journaledTreatment s.engine.mode.name d := by
  simp only [journaled, Bool.and_eq_true, Bool.not_eq_true'] at hj
  obtain ⟨harea, hentry⟩ := hj
  have outside : ¬ (s.engine.mode ≠ .off ∧ inArea s.engine.base s.engine.slots (2 * a.toNat) = true) := by
    simpa using harea
  simp only [classify, hh, Bool.false_eq_true, if_false, hb, hs, outside]
  cases hd : decisive s.regions.entries (2 * a.toNat) with
  | none => simp [hd] at hentry
  | some i =>
    have hmode : (s.regions.entries.get i).mode = .journal := by simpa [hd] using hentry
    simp only [hmode, regionTreatment]

/-- R127: of the engine's state it matters to `journaled` only whether it is OFF. -/
theorem journaled_congr {s t : State} (a : HalfAddr) (hr : t.regions = s.regions)
    (hb : t.engine.base = s.engine.base) (hs : t.engine.slots = s.engine.slots)
    (ht : t.engine.mode ≠ .off) (hm : s.engine.mode ≠ .off) : journaled t a = journaled s a := by
  simp only [journaled, hr, hb, hs, ne_eq, ht, hm]

/-- R25, R133: an access held again keeps its running timer (log 13). -/
theorem holdAccess_running {a : HostAccess} {l : Byte} (hst : a.stage = .held .engine) (ht : a.timer = some l)
    (s : State) :
    (holdAccess .engine a s).host = { s.host with access := some { a with watch := none } } := by
  simp [hst, ht]

/-- R84, R119, R132: a held access that its fresh classification holds again stays held. -/
theorem resolveHeld_host_of_hold {s : State} {a : HostAccess} {l : Byte} (ha : s.host.access = some a)
    (hst : a.stage = .held .engine) (ht : a.timer = some l) (hc : classify s a.addr a.dir = .hold) :
    (resolveHeld s).host = { s.host with access := some { a with watch := none } } := by
  rw [resolveHeld_of_held ha hst, hc]
  exact holdAccess_running hst ht s

theorem heldWriteAtEntryToActive : Claims.HeldWriteAtEntryToActive := by
  intro s a l
  dsimp only
  intro ha hst hd ht hj hb hs
  have waits : a.stage ≠ .forwarding := by simp [hst]
  -- In every state but OFF and the head phase the write is treated by its JOURNAL entry.
  have journal {t : State} (hr : t.regions = s.regions) (htb : t.engine.base = s.engine.base)
      (hts : t.engine.slots = s.engine.slots) (hm : t.engine.mode ≠ .off)
      (hh : t.engine.mode.headPhase = false) :
      classify t a.addr a.dir = journaledTreatment t.engine.mode.name .write := by
    rw [hd]
    refine classify_of_journaled .write ?_ (by rw [hr, hb, htb]) (by rw [hr, hs, hts]) hh
    rw [← hj]
    exact journaled_congr a.addr hr htb hts hm (by simp)
  refine ⟨fun hk hu => ?_, ?_⟩
  · rw [enterActive_of_no_undo hu, restActive_of_no_mark (by exact hk), resolveHeld_of_held (by exact ha) hst,
      journal (t := setMode .active s) rfl rfl rfl (by simp) rfl]
    rfl
  · rintro (⟨hu, hfill⟩ | ⟨hu, hk, h4, hfill⟩)
    · rw [enterActive_of_undo hu, if_neg (Nat.not_le.2 hfill), pendingUndo,
        reclassifyWaiting_of_not_forwarding (by exact ha) waits]
      exact resolveHeld_host_of_hold ha hst ht (journal rfl rfl rfl (by simp) rfl)
    · rw [enterActive_of_no_undo hu, restActive_of_mark (by exact hk) (by exact h4) (by exact hfill), beginMark,
        reclassifyWaiting_of_not_forwarding (by exact ha) waits]
      exact resolveHeld_host_of_hold ha hst ht (journal rfl rfl rfl (by simp) rfl)

/-! ### OFF and BROKEN -/

/-- R70: both pending flags are clear afterwards, and REQUEST_REFUSED is raised when one was set. -/
theorem refusePending_eq (s : State) :
    refusePending s = if s.engine.markPending || s.engine.undoPending
      then raise .requestRefused (setMarkPending false (setUndoPending false s))
      else setMarkPending false (setUndoPending false s) := by
  simp only [refusePending, Bool.or_eq_true]
  split
  · rfl
  · rename_i h
    obtain ⟨hk, hu⟩ := not_or.1 h
    rw [setUndoPending_of_clear (by simpa using hu), setMarkPending_of_clear (by simpa using hk)]

theorem entryToOffAndBroken : Claims.EntryToOffAndBroken := by
  intro s
  dsimp only
  rw [endInOff, endInBroken, refusePending_eq, refusePending_eq]
  exact ⟨rfl, rfl⟩

end Sys2Proof.Machine
open Sys2Proof Sys2Proof.Machine Sys2Proof.Safety

/-- Settles O25: a lookup by level, space and policy; at an arrival it is that of the access in progress. -/
theorem journaledWriteLookup : Obligations.JournaledWriteLookup := ⟨lookupOfAnyWrite, lookupAtArrival⟩

/-- Settles O28, by the stage of the access, and for one classified afresh by its treatment. -/
theorem accessClassifiedAfresh : Obligations.AccessClassifiedAfresh := by
  intro s a ha
  dsimp only
  refine ⟨fun hst => ⟨?_, reclassifyWaiting_of_not_forwarding ha (by simp [hst])⟩,
    fun hst => ⟨?_, resolveHeld_of_unheld ha (.inl hst)⟩,
    fun hst => ⟨reclassifyWaiting_of_not_forwarding ha (by simp [hst]), resolveHeld_of_unheld ha (.inr (.inl hst))⟩,
    fun hst => ⟨reclassifyWaiting_of_not_forwarding ha (by simp [hst]), resolveHeld_of_unheld ha (.inr (.inr hst))⟩,
    fun hst hm => resolveHeld_of_breakEnd ha hst hm⟩
  · rw [resolveHeld_of_held ha hst]
    rcases classify s a.addr a.dir with watch | _ | _ | (_ | i) <;> rfl
  · rw [reclassifyWaiting_of_forwarding ha hst]
    rcases classify s a.addr a.dir with watch | _ | _ | (_ | i) <;> rfl

/-- Settles O33: the save's next access, or its kind write with what ends the save. -/
theorem saveAdvances : Obligations.SaveAdvances := by
  intro s v w h hm
  have completed : exec .engineAccessComplete s = .next (settle (advanceSaving v w (portFreed .engine s))) := by
    rw [exec_of_engineAccess h]
    simp only [advance, portFreed, hm]
  dsimp only
  rw [completed]
  refine ⟨fun hlt => ?_, fun hk hno => ?_, fun a hk ha hst => ?_, fun ht g => ?_⟩
  · rw [advanceSaving_of_lt v hlt]
    rfl
  · rw [advanceSaving_kind v hk, saveWritten_unheld (by exact hno), if_neg (by omega)]
    rfl
  · rw [advanceSaving_kind v hk, saveWritten_held (by exact ha) hst, if_neg (by omega)]
    rfl
  · obtain ⟨hwf, -⟩ := ht
    exact TouchMap.level_set _ _ _ _ hwf

/-- Settles O43: the sweeps at their completion, each with the next step of its operation. -/
theorem sweepsComplete : Obligations.SweepsComplete := ⟨clearSweepCompletes, relabelSweepCompletes⟩

/-- Settles O29: the pending requests in their order, the held write, and the two ends that empty the journal. -/
theorem endsOfOperations : Obligations.EndsOfOperations :=
  ⟨entryToActive, heldWriteAtEntryToActive, entryToOffAndBroken⟩
end

section
/-! PROOFS. Checkpoints and the request lines: MARK and RELEASE (R58 to R63), the request lines (R65 to R73), and the
commands MARK, RELEASE, UNDO, COMMIT and DISARM (R59, R62, R72, R89, R93, R99). -/

namespace Sys2Proof.Machine

open Sys2Proof.Safety

/-! ## The beginning and the end of an undo -/

/-- R81: the normal end of an undo is followed by the entry into ACTIVE, which sets the mode itself. -/
theorem enterActive_undoNormal (s : State) :
    enterActive (undoNormal s) = enterActive (raise .undoEnd (setUndoOutcome .normal s)) := rfl

/-- R75: the target is the top checkpoint's position. -/
theorem atTarget_iff (s : State) : atTarget s = true ↔ s.engine.fill ≤ s.engine.topPosition :=
  decide_eq_true_iff

/-- R74, R75, R149: a waiting forward classified afresh as an undo begins moves neither fill nor the target. -/
theorem atTarget_undoBegun (drop : Bool) (s : State) :
    atTarget (reclassifyWaiting (enterUndoing drop s)) = true ↔ s.engine.fill ≤ s.engine.topPosition := by
  simp [atTarget_iff, Engine.topPosition, enterUndoing]

/-- R72, R82: an undo with a slot to remove goes on in UNDOING. -/
theorem beginUndo_of_walk {drop : Bool} {s : State}
    (h : drop = true ∨ s.engine.topPosition < s.engine.fill) :
    beginUndo drop s = reclassifyWaiting (enterUndoing drop s) := by
  refine if_neg ?_
  rw [Bool.and_eq_true, atTarget_undoBegun]
  rcases h with rfl | h
  · simp
  · omega

/-- R81: an undo with KEEP and nothing above its target ends at its entry. -/
theorem beginUndo_keep_at_target {s : State} (h : s.engine.fill ≤ s.engine.topPosition) :
    beginUndo false s
      = enterActive (raise .undoEnd (setUndoOutcome .normal (reclassifyWaiting (enterUndoing false s)))) :=
  (if_pos ((atTarget_undoBegun false s).2 h)).trans (enterActive_undoNormal _)

/-! ## MARK and RELEASE -/

/-- R60: before the kind write a mark goes on to its next write. -/
theorem advanceMarking_of_lt {label : Half} {n : Nat} (h : n < 6) (s : State) :
    advanceMarking label n s = setMode (.marking label (n + 1)) s :=
  if_neg (by omega)

/-! ## The request lines -/

/-- R65, R66: an edge from a line seen low, with its enable set. -/
theorem exec_markReqEdge {s : State} (hp : s.power = .running) (hl : s.engine.markLine = false)
    (he : s.engine.markEnable = true) :
    exec .markReqEdge s = .next (settle (markEdge (setMarkLine true s))) := by
  simp [exec, execMarkReqEdge, hp, hl, he]

theorem exec_undoReqEdge {s : State} (hp : s.power = .running) (hl : s.engine.undoLine = false)
    (he : s.engine.undoEnable = true) :
    exec .undoReqEdge s = .next (settle (undoEdge (setUndoLine true s))) := by
  simp [exec, execUndoReqEdge, hp, hl, he]

/-- R66: in ACTIVE an edge asks for its operation at once. -/
theorem markEdge_active {s : State} (h : s.engine.mode.name = .active) : markEdge s = markRequest s := if_pos h

theorem undoEdge_active {s : State} (h : s.engine.mode.name = .active) : undoEdge s = beginUndo false s :=
  if_pos h

/-- R67: an edge while an operation runs. -/
theorem edge_running {n : StateName} (h : n.resting = false) (x y z : State) :
    (if n = .active then x else if n.resting then y else z) = z := by
  have active : n ≠ .active := fun ha => by simp [ha, StateName.resting] at h
  rw [if_neg active, if_neg (by simp [h])]

/-- R68: an edge in OFF, BROKEN and HALTED. -/
theorem edge_resting {n : StateName} (h : n = .off ∨ n = .broken ∨ n = .halted) (x y z : State) :
    (if n = .active then x else if n.resting then y else z) = y := by
  rcases h with rfl | rfl | rfl <;> rfl

/-- R67: while an operation runs an edge is pending, or merged into the one that is. -/
theorem markEdge_running {s : State} (h : s.engine.mode.name.resting = false) : markEdge s
    = if s.engine.markPending then raise .requestMerged s else setMarkPending true s :=
  edge_running h _ _ _

theorem undoEdge_running {s : State} (h : s.engine.mode.name.resting = false) : undoEdge s
    = if s.engine.undoPending then raise .requestMerged s else setUndoPending true s :=
  edge_running h _ _ _

/-- R68: in OFF, BROKEN and HALTED an edge is refused. -/
theorem markEdge_refused {s : State}
    (h : s.engine.mode.name = .off ∨ s.engine.mode.name = .broken ∨ s.engine.mode.name = .halted) :
    markEdge s = raise .requestRefused s :=
  edge_resting h _ _ _

theorem undoEdge_refused {s : State}
    (h : s.engine.mode.name = .off ∨ s.engine.mode.name = .broken ∨ s.engine.mode.name = .halted) :
    undoEdge s = raise .requestRefused s :=
  edge_resting h _ _ _

theorem markRequestLine : Claims.MarkRequestLine := by
  intro s hp
  dsimp only
  refine ⟨by simp [exec, execRequestLineFall, hp, setMarkLine], fun hl => by simp [exec, execMarkReqEdge, hl],
    fun hl he => by simp [exec, execMarkReqEdge, hp, hl, he, setMarkLine], fun hl he => ?_⟩
  rw [exec_markReqEdge hp hl he]
  refine ⟨fun hn hk => ?_, fun hn hk => ?_, fun hn => ?_, fun hn h4 => ?_, fun hn h4 hf => ?_, fun hn h4 hf => ?_⟩
  · rw [markEdge_running (by exact hn), if_neg (by simp [hk])]
    rfl
  · rw [markEdge_running (by exact hn), if_pos (by exact hk)]
    rfl
  · rw [markEdge_refused (by exact hn)]
    rfl
  · rw [markEdge_active (by exact hn), markRequest, markTest_depth (by exact h4)]
    rfl
  · rw [markEdge_active (by exact hn), markRequest, markTest_full (by exact h4) (by exact hf)]
    rfl
  · rw [markEdge_active (by exact hn), markRequest, markTest_pass (by exact h4) (by exact hf)]
    rfl

theorem undoRequestLine : Claims.UndoRequestLine := by
  intro s hp
  dsimp only
  refine ⟨by simp [exec, execRequestLineFall, hp, setUndoLine], fun hl => by simp [exec, execUndoReqEdge, hl],
    fun hl he => by simp [exec, execUndoReqEdge, hp, hl, he, setUndoLine], fun hl he => ?_⟩
  rw [exec_undoReqEdge hp hl he]
  refine ⟨fun hn hk => ?_, fun hn hk => ?_, fun hn => ?_, fun hn hfill => ?_, fun hn hfill => ?_⟩
  · rw [undoEdge_running (by exact hn), if_neg (by simp [hk])]
    rfl
  · rw [undoEdge_running (by exact hn), if_pos (by exact hk)]
    rfl
  · rw [undoEdge_refused (by exact hn)]
    rfl
  · rw [undoEdge_active (by exact hn), beginUndo_of_walk (.inr (by exact hfill))]
    rfl
  · rw [undoEdge_active (by exact hn), beginUndo_keep_at_target (by exact hfill)]
    rfl

/-! ## The commands in the states that take them -/

section Commands
variable {s : State} {crc : Byte}

/-- R35, R177: a command acts, its frame open, in a resting state that takes it. -/
theorem gated_frameBegun {code : Byte} {taken : StateName → Bool} {act : State → State}
    (hr : s.engine.mode.name.resting = true) (ht : taken s.engine.mode.name = true) :
    gated code taken act (frameBegun s) = act (frameBegun s) :=
  gated_taken _ _ _ _ (by simpa using hr) (by simpa using ht)

/-- R35: MARK, RELEASE and UNDO are taken in ACTIVE. -/
theorem gated_frameBegun_active {code : Byte} {act : State → State} (hm : s.engine.mode = .active) :
    gated code (· == .active) act (frameBegun s) = act (frameBegun s) :=
  gated_frameBegun (by rw [hm]; rfl) (by rw [hm]; rfl)

theorem exec_mark_active {label : Half} (h : Taken (.mark label crc) s) (hm : s.engine.mode = .active) :
    exec (.mark label crc) s = .next (markTested label (frameBegun s)) := by
  simp only [exec, execMark, takeFrame_of_taken h rfl, takeMark, gated_frameBegun_active hm]

theorem exec_release_active (h : Taken (.release crc) s) (hm : s.engine.mode = .active) :
    exec (.release crc) s = .next (if s.engine.depth ≤ 1 then respond 0x23#8 .depth [] (frameBegun s)
      else accepted 0x23#8 beginRelease (frameBegun s)) := by
  obtain ⟨-, he, -⟩ := frameBegun_frame s
  simp only [exec, execRelease, takeFrame_of_taken h rfl, takeRelease, gated_frameBegun_active hm, he]

theorem exec_undo_active {option : Byte} (h : Taken (.undo option crc) s) (hm : s.engine.mode = .active) :
    exec (.undo option crc) s = .next (undoTested option (frameBegun s)) := by
  simp only [exec, execUndo, takeFrame_of_taken h rfl, takeUndo, gated_frameBegun_active hm]

/-- R35: COMMIT and DISARM are taken in ACTIVE, BROKEN and HALTED. -/
theorem gated_frameBegun_restsArmed {code : Byte} {act : State → State}
    (hm : s.engine.mode = .active ∨ s.engine.mode = .broken ∨ s.engine.mode = .halted) :
    gated code restsArmed act (frameBegun s) = act (frameBegun s) := by
  rcases hm with hm | hm | hm <;> exact gated_frameBegun (by rw [hm]; rfl) (by rw [hm]; rfl)

theorem exec_commit_resting (h : Taken (.commit crc) s)
    (hm : s.engine.mode = .active ∨ s.engine.mode = .broken ∨ s.engine.mode = .halted) :
    exec (.commit crc) s = .next (accepted 0x25#8 beginCommit (frameBegun s)) := by
  simp only [exec, execCommit, takeFrame_of_taken h rfl, takeCommit, gated_frameBegun_restsArmed hm]

/-- R99: outside UNDOING a DISARM meets the state test alone. -/
theorem takeDisarm_of_not_undoing (h : ∀ u, s.engine.mode ≠ .undoing u) :
    takeDisarm s = gated 0x21#8 restsArmed (accepted 0x21#8 beginDisarm) s := by
  unfold takeDisarm
  split
  · exact absurd ‹_› (h _)
  · rfl

theorem exec_disarm_resting (h : Taken (.disarm crc) s)
    (hm : s.engine.mode = .active ∨ s.engine.mode = .broken ∨ s.engine.mode = .halted) :
    exec (.disarm crc) s = .next (accepted 0x21#8 beginDisarm (frameBegun s)) := by
  have rests (u : UndoWork) : (frameBegun s).engine.mode ≠ .undoing u := by
    rcases hm with hm | hm | hm <;> simp [hm]
  simp only [exec, execDisarm, takeFrame_of_taken h rfl, takeDisarm_of_not_undoing rests,
    gated_frameBegun_restsArmed hm]

theorem exec_disarm_undoing {u : UndoWork} (h : Taken (.disarm crc) s) (hm : s.engine.mode = .undoing u) :
    exec (.disarm crc) s = .next (disarmUndo u (frameBegun s)) := by
  obtain ⟨-, he, -⟩ := frameBegun_frame s
  simp only [exec, execDisarm, takeFrame_of_taken h rfl, takeDisarm, he, hm]

end Commands

/-- R58: what COMMIT and DISARM leave of fill and the stack. -/
theorem fromBroken_eq (s : State) : fromBroken s = { s with engine := { s.engine with
    fill := (if s.engine.mode = .broken then 0 else s.engine.fill)
    stack := (if s.engine.mode = .broken then [base] else s.engine.stack) } } := by
  unfold fromBroken
  split <;> rfl

/-- R139: the engine's access is in progress exactly when its requester is the engine. -/
theorem servesEngine_iff (p : Port) : p.servesEngine = true ↔ p.busy.map PortBusy.who = some .engine := by
  unfold Port.servesEngine
  cases p.busy <;> simp

/-- R89: a slot is in progress from its first header read on (log 14). -/
theorem slotInProgress_iff (u : UndoWork) (s : State) : slotInProgress u s = true
    ↔ u.step ≠ .header [] ∨ s.port.busy.map PortBusy.who = some .engine := by
  simp [slotInProgress, servesEngine_iff]

theorem markAndReleaseTaken : Claims.MarkAndReleaseTaken := by
  intro s crc hm
  dsimp only
  refine ⟨fun label h => ?_, fun h => ?_⟩
  · obtain ⟨-, he, -⟩ := frameBegun_frame s
    rw [exec_mark_active h hm, ← he]
    generalize frameBegun s = u
    refine ⟨fun h4 => ?_, fun h4 hf => ?_, fun h4 hf => ?_⟩
    · rw [markTested, markTest_depth (by exact h4)]
      rfl
    · rw [markTested, markTest_full (by exact h4) (by exact hf)]
      rfl
    · rw [markTested, markTest_pass (by exact h4) (by exact hf)]
      rfl
  · obtain ⟨-, he, -⟩ := frameBegun_frame s
    rw [exec_release_active h hm, ← he]
    generalize frameBegun s = u
    refine ⟨fun h1 => congrArg _ (if_pos h1), fun h2 => ?_⟩
    rw [if_neg (by exact Nat.not_le.2 h2)]
    rfl

/-- R182: the option of an UNDO by its number. -/
theorem undoTested_eq (option : Byte) (s : State) : undoTested option s
    = if option.toNat = 0 then accepted 0x24#8 (beginUndo false) s
      else if option.toNat = 1 then
        if s.engine.depth ≤ 1 then respond 0x24#8 .depth [] s else accepted 0x24#8 (beginUndo true) s
      else respond 0x24#8 .range [] s := by
  have number (n : Byte) : option = n ↔ option.toNat = n.toNat := BitVec.toNat_inj.symm
  simp only [undoTested, number]
  rfl

theorem undoTaken : Claims.UndoTaken := by
  intro s option crc h hm
  obtain ⟨-, he, -⟩ := frameBegun_frame s
  dsimp only
  rw [exec_undo_active h hm, ← he, undoTested_eq]
  generalize frameBegun s = u
  refine ⟨fun h2 => ?_, fun h1 hd => ?_, ?_, fun h0 hfill => ?_⟩
  · rw [if_neg (by omega), if_neg (by omega)]
    rfl
  · rw [if_neg (by omega), if_pos h1, if_pos (by exact hd)]
    rfl
  · rintro (⟨h1, hd⟩ | ⟨h0, hfill⟩)
    · rw [if_neg (by omega), if_pos h1, if_neg (by exact Nat.not_le.2 hd), h1, accepted,
        beginUndo_of_walk (.inl rfl)]
      rfl
    · rw [if_pos h0, h0, accepted, beginUndo_of_walk (.inr hfill)]
      rfl
  · rw [if_pos h0, h0, accepted, beginUndo_keep_at_target hfill]
    rfl

theorem commitAndDisarmTaken : Claims.CommitAndDisarmTaken := by
  intro s crc hm
  obtain ⟨-, he, -⟩ := frameBegun_frame s
  dsimp only
  refine ⟨fun h => ?_, fun h => ?_⟩
  · rw [exec_commit_resting h hm, ← he, accepted, beginCommit, fromBroken_eq]
    rfl
  · rw [exec_disarm_resting h hm, ← he, accepted, beginDisarm, fromBroken_eq]
    rfl

theorem disarmInUndoing : Claims.DisarmInUndoing := by
  intro s crc u h hm hd
  obtain ⟨-, he, -⟩ := frameBegun_frame s
  dsimp only
  rw [exec_disarm_undoing h hm, ← frameBegun_busy_who, ← slotInProgress_iff, ← he, disarmUndo,
    if_neg (by simp [hd])]
  generalize frameBegun s = x
  refine ⟨fun hp => ?_, fun hp => ?_⟩
  · rw [if_pos hp]
    rfl
  · rw [if_neg hp]
    rfl

end Sys2Proof.Machine

open Sys2Proof Sys2Proof.Machine Sys2Proof.Safety

/-- Settles O34: the next write of a mark, or what its kind write and that of a release bring. -/
theorem markAndReleaseAdvance : Obligations.MarkAndReleaseAdvance := by
  intro s v h
  rw [exec_of_engineAccess h]
  refine ⟨fun label n hm hn => ?_, fun label hm => ?_, fun hm => ?_⟩ <;>
    congr 2 <;> simp only [advance, portFreed, hm]
  · rw [advanceMarking_of_lt hn]
    rfl
  · rfl
  · rfl

/-- Settles O44, by the line's level and enable, and for an edge taken by the engine's state. -/
theorem requestLines : Obligations.RequestLines := ⟨markRequestLine, undoRequestLine⟩

/-- Settles O56: the tests of each command in their order, and the operation that it begins. -/
theorem markReleaseUndoTaken : Obligations.MarkReleaseUndoTaken := ⟨markAndReleaseTaken, undoTaken⟩

/-- Settles O57: in the resting states the operation begins, and in UNDOING the slot in progress decides. -/
theorem commitAndDisarm : Obligations.CommitAndDisarm := ⟨commitAndDisarmTaken, disarmInUndoing⟩
end

section
/-! PROOFS. The slots of an undo, judged and removed (R74 to R82, R86, R89), and the end of a resume (R119 to R121). -/

namespace Sys2Proof.Machine

open Sys2Proof.Safety

/-! ## The tests of a slot -/

/-- R12, R76: kind, epoch and sequence. -/
theorem headerTest_iff (epoch : Half) (k : Nat) (h : SlotHeader) : headerTest epoch k h = true
    ↔ isEntryKind h.kind = true ∧ h.epoch = epoch ∧ h.sequence.toNat = k := by
  simp [headerTest, and_assoc]

/-- R13, R188: check and the byte at +9 of a slot that holds no data. -/
def MarkerSound (h : SlotHeader) : Prop :=
  h.check = markerCheck h.epoch h.sequence h.subject h.level ∧ highByte h.level = 0#8

/-- R79: a RELEASED slot above the target. -/
theorem releasedTest_iff {h : SlotHeader} (hk : h.kind = kindReleased) (d : Nat) : releasedTest d h = true
    ↔ MarkerSound h ∧ d + 1 ≤ levelByte h ∧ levelByte h ≤ 4 := by
  have not_save : h.kind ≠ kindSave := by rw [hk]; decide
  simp [releasedTest, headerCheckOk, not_save, levelHighZero, MarkerSound]

/-- R82: the top marker of a DROP. -/
theorem markerTest_iff (h : SlotHeader) (d : Nat) : markerTest d h = true
    ↔ h.kind = kindMarker ∧ MarkerSound h ∧ levelByte h = d := by
  by_cases hk : h.kind = kindMarker
  · have not_save : kindMarker ≠ kindSave := by decide
    simp [markerTest, headerCheckOk, not_save, levelHighZero, MarkerSound, hk]
  · simp [markerTest, hk]

/-- R77: a granule shares no byte with the area exactly when it lies before it or after it. -/
theorem granuleMeetsArea_eq_false_iff (base slots g : Nat) : granuleMeetsArea base slots g = false
    ↔ slots = 0 ∨ g * 32 + 32 ≤ base * 1024 ∨ base * 1024 + 128 + 44 * slots ≤ g * 32 := by
  by_cases hs : slots = 0
  · simp [granuleMeetsArea, hs]
  · refine ⟨fun h => .inr (outside_of_granuleMeetsArea hs h), fun h => ?_⟩
    unfold granuleMeetsArea rangesMeet areaBytes
    exact Bool.and_eq_false_iff.2 (.inr (decide_eq_false (by omega)))

/-- R77: a SAVE slot whose data have been read. -/
theorem saveTest_iff {h : SlotHeader} (hk : h.kind = kindSave) (base slots : Nat) (data : List Half) :
    saveTest base slots h data = true
      ↔ h.check = saveCheck h.epoch h.sequence h.subject h.level data ∧ highByte h.level = 0#8 ∧
        levelByte h ≤ 3 ∧ h.subject.toNat ≤ 32767 ∧
        (slots = 0 ∨ h.subject.toNat * 32 + 32 ≤ base * 1024 ∨
          base * 1024 + 128 + 44 * slots ≤ h.subject.toNat * 32) := by
  rw [← granuleMeetsArea_eq_false_iff]
  simp [saveTest, headerCheckOk, hk, levelHighZero, and_assoc]

/-! ## A slot judged -/

section Judged
variable {u : UndoWork} {h : SlotHeader} {s : State}

/-- R76, R80: what the walk does with a header, by its kind. -/
theorem judgeWalk_save (ht : h.epoch = s.engine.epoch ∧ h.sequence.toNat = s.engine.fill - 1)
    (hk : h.kind = kindSave) : judgeWalk u h s = setUndoStep u (.data h []) s := by
  have header : headerTest s.engine.epoch (s.engine.fill - 1) h = true :=
    (headerTest_iff _ _ _).2 ⟨by rw [hk]; rfl, ht⟩
  rw [judgeWalk, if_pos header, if_pos hk]

theorem judgeWalk_released (ht : h.epoch = s.engine.epoch ∧ h.sequence.toNat = s.engine.fill - 1)
    (hk : h.kind = kindReleased) (hr : MarkerSound h ∧ u.walkDepth + 1 ≤ levelByte h ∧ levelByte h ≤ 4) :
    judgeWalk u h s = setUndoStep u (.void h) s := by
  have header : headerTest s.engine.epoch (s.engine.fill - 1) h = true :=
    (headerTest_iff _ _ _).2 ⟨by rw [hk]; rfl, ht⟩
  have not_save : h.kind ≠ kindSave := by rw [hk]; decide
  rw [judgeWalk, if_pos header, if_neg not_save, if_pos ⟨hk, (releasedTest_iff hk _).2 hr⟩]

theorem judgeWalk_bad (hb : ¬ (h.epoch = s.engine.epoch ∧ h.sequence.toNat = s.engine.fill - 1) ∨
      (h.kind ≠ kindSave ∧ h.kind ≠ kindReleased) ∨
      (h.kind = kindReleased ∧ ¬ (MarkerSound h ∧ u.walkDepth + 1 ≤ levelByte h ∧ levelByte h ≤ 4))) :
    judgeWalk u h s = undoBad u s := by
  unfold judgeWalk
  split
  · rename_i header
    obtain ⟨-, ht⟩ := (headerTest_iff _ _ _).1 header
    rcases hb with hn | ⟨hs, hr⟩ | ⟨hk, hr⟩
    · exact absurd ht hn
    · rw [if_neg hs, if_neg (fun hc => hr hc.1)]
    · have not_save : h.kind ≠ kindSave := by rw [hk]; decide
      rw [if_neg not_save, if_neg (fun hc => hr ((releasedTest_iff hk _).1 hc.2))]
  · rfl

/-- R82: what a DROP does with the header of the top marker. -/
theorem judgeMarker_iff : headerTest s.engine.epoch (s.engine.fill - 1) h ∧ markerTest u.walkDepth h
    ↔ (h.epoch = s.engine.epoch ∧ h.sequence.toNat = s.engine.fill - 1) ∧ h.kind = kindMarker ∧
      MarkerSound h ∧ levelByte h = u.walkDepth := by
  rw [headerTest_iff, markerTest_iff]
  exact ⟨fun ⟨⟨_, ht⟩, hm⟩ => ⟨ht, hm⟩, fun ⟨ht, hk, hm⟩ => ⟨⟨by rw [hk]; rfl, ht⟩, hk, hm⟩⟩

theorem judgeMarker_top (ht : (h.epoch = s.engine.epoch ∧ h.sequence.toNat = s.engine.fill - 1) ∧
      h.kind = kindMarker ∧ MarkerSound h ∧ levelByte h = u.walkDepth) :
    judgeMarker u h s = setUndoStep u (.void h) s :=
  if_pos (judgeMarker_iff.2 ht)

theorem judgeMarker_bad (ht : ¬ ((h.epoch = s.engine.epoch ∧ h.sequence.toNat = s.engine.fill - 1) ∧
      h.kind = kindMarker ∧ MarkerSound h ∧ levelByte h = u.walkDepth)) :
    judgeMarker u h s = undoBad u s :=
  if_neg (mt judgeMarker_iff.1 ht)

end Judged

/-- R86, R89: a bad slot. -/
theorem undoBad_eq (u : UndoWork) (s : State) : undoBad u s = resolveHeld
    (if u.disarm then enterDisarming (raise .undoFault (setUndoOutcome .fault s))
     else if s.engine.markPending || s.engine.undoPending then
      raise .requestRefused (setMarkPending false (setUndoPending false
        (setMode .halted (raise .undoFault (setUndoOutcome .fault s)))))
     else setMode .halted (raise .undoFault (setUndoOutcome .fault s))) := by
  simp only [undoBad, refusePending, Bool.or_eq_true]
  split <;> rfl

/-! ## A slot removed -/

/-- The state after the removal of the slot at fill − 1: the top marker of a DROP, a SAVE, or a RELEASED slot
(R78, R79, R82). -/
def slotRemoved (u : UndoWork) (h : SlotHeader) (s : State) : State :=
  if s.engine.fill ≤ u.target then removeMarker s
  else if h.kind = kindSave then removeSave h s
  else removeReleased s

theorem slotRemoved_fill (u : UndoWork) (h : SlotHeader) (s : State) :
    (slotRemoved u h s).engine.fill = s.engine.fill - 1 := by
  unfold slotRemoved
  split
  · rfl
  · split <;> rfl

/-- R75, R78, R81, R82, R89: after a removal the walk goes on above the target and to a DROP's marker, or ends. -/
theorem voidDone_eq (u : UndoWork) (h : SlotHeader) (s : State) : voidDone u h s
    = if u.disarm then undoAborted (slotRemoved u h s)
      else if u.target + 1 < s.engine.fill ∨ (u.target + 1 = s.engine.fill ∧ u.drop = true) then
        setUndoStep u (.header []) (slotRemoved u h s)
      else enterActive (undoNormal (slotRemoved u h s)) := by
  by_cases hw : u.target < s.engine.fill
  · have removed : (if h.kind = kindSave then removeSave h s else removeReleased s) = slotRemoved u h s :=
      (if_neg (Nat.not_le.2 hw)).symm
    rw [voidDone, if_pos hw, removed, afterRemoval, slotRemoved_fill]
    split
    · rfl
    · by_cases hfill : s.engine.fill - 1 ≤ u.target
      · have last : u.target + 1 = s.engine.fill := by omega
        simp [last]
      · have more : u.target + 1 < s.engine.fill := by omega
        simp [hfill, more]
  · have marker : removeMarker s = slotRemoved u h s := (if_pos (Nat.not_lt.1 hw)).symm
    have done : ¬ (u.target + 1 < s.engine.fill ∨ (u.target + 1 = s.engine.fill ∧ u.drop = true)) := by omega
    rw [voidDone, if_neg hw, marker, if_neg done]

/-! ## The accesses of an undo -/

section Undoing
variable {s : State} {v : Half} {u : UndoWork}

/-- R139: an access of UNDOING completes. -/
theorem exec_undoing (h : EngineAccess s v) (hm : s.engine.mode = .undoing u) :
    exec .engineAccessComplete s = .next (settle (advanceUndoing v u (portFreed .engine s))) := by
  rw [exec_of_engineAccess h]
  simp only [advance, portFreed, hm]

/-- R76: the header reads up to the fifth. -/
theorem advanceUndoing_header {got : List Half} (hs : u.step = .header got) (hl : got.length < 5) :
    advanceUndoing v u s = setUndoStep u (.header (got ++ [v])) s := by
  have more : (got ++ [v]).length < 6 := by simpa using by omega
  simp only [advanceUndoing, hs, more, if_true]

/-- R76, R82: the sixth header read judges the slot, by its place. -/
theorem advanceUndoing_judge {kind epoch seq subject level : Half}
    (hs : u.step = .header [kind, epoch, seq, subject, level]) : advanceUndoing v u s
      = if u.target < s.engine.fill then judgeWalk u ⟨kind, epoch, seq, subject, level, v⟩ s
        else judgeMarker u ⟨kind, epoch, seq, subject, level, v⟩ s := by
  simp only [advanceUndoing, hs]
  rfl

/-- R77: the data reads up to the fifteenth, and the sixteenth. -/
theorem advanceUndoing_data {h : SlotHeader} {got : List Half} (hs : u.step = .data h got)
    (hl : got.length < 15) : advanceUndoing v u s = setUndoStep u (.data h (got ++ [v])) s := by
  have more : (got ++ [v]).length < 16 := by simpa using by omega
  simp only [advanceUndoing, hs, more, if_true]

theorem advanceUndoing_data_last {h : SlotHeader} {got : List Half} (hs : u.step = .data h got)
    (hl : got.length = 15) : advanceUndoing v u s
      = if saveTest s.engine.base s.engine.slots h (got ++ [v])
        then setUndoStep u (.restore h (got ++ [v]) 0) s else undoBad u s := by
  have last : ¬ (got ++ [v]).length < 16 := by simp [hl]
  simp only [advanceUndoing, hs, last, if_false]

/-- R78: the restore writes, and the VOID write after the sixteenth. -/
theorem advanceUndoing_restore {h : SlotHeader} {data : List Half} {n : Nat} (hs : u.step = .restore h data n) :
    advanceUndoing v u s
      = setUndoStep u (if n < 15 then .restore h data (n + 1) else .void h) s := by
  have bound : n + 1 < 16 ↔ n < 15 := by omega
  simp only [advanceUndoing, hs, bound]
  split <;> rfl

end Undoing

/-! ## The end of a resume -/

/-- R119, R121: the result of a resume that has scanned. -/
def resumed (reason : StopReason) (s : State) : State := raise .resumeEnd (setResume .resumed reason s)

/-- R70, R120: a pending UNDO_REQ is merged into the undo of AUTO-UNDO. -/
def resumedMerged (reason : StopReason) (s : State) : State :=
  if s.engine.undoPending then raise .requestMerged (setUndoPending false (resumed reason s))
  else resumed reason s

theorem resumedMerged_frame (reason : StopReason) (s : State) :
    (resumedMerged reason s).engine = { s.engine with
      undoPending := false, resumeOutcome := .resumed, resumeStop := reason } ∧
    (resumedMerged reason s).host = s.host ∧ (resumedMerged reason s).regions = s.regions := by
  unfold resumedMerged
  split
  · exact ⟨rfl, rfl, rfl⟩
  · rename_i hu
    have clear : s.engine.undoPending = false := by simpa using hu
    rw [← clear]
    exact ⟨rfl, rfl, rfl⟩

theorem resumeEnd_plain (reason : StopReason) (s : State) :
    resumeEnd false reason s = enterActive (resumed reason s) := rfl

/-- R81, R120: the undo of AUTO-UNDO. -/
theorem resumeEnd_auto (reason : StopReason) (s : State) : resumeEnd true reason s
    = if s.engine.fill ≤ s.engine.topPosition
      then enterActive (undoNormal (enterUndoing false (resumedMerged reason s)))
      else resolveHeld (enterUndoing false (resumedMerged reason s)) := by
  obtain ⟨he, -⟩ := resumedMerged_frame reason s
  have target : atTarget (enterUndoing false (resumedMerged reason s)) = true
      ↔ s.engine.fill ≤ s.engine.topPosition := by
    simp [atTarget_iff, Engine.topPosition, enterUndoing, he]
  simp only [← target]
  rfl

/-- R74: the values that the undo of AUTO-UNDO fixes are those of the state before the resume's end. -/
theorem enterUndoing_resumedMerged (reason : StopReason) (s : State) :
    enterUndoing false (resumedMerged reason s) = { resumedMerged reason s with
      engine := { (resumedMerged reason s).engine with
        mode := .undoing (UndoWork.mk s.engine.topPosition false s.engine.stack.length false (.header []))
        undoCount := 0, undoOutcome := .none } } := by
  obtain ⟨he, -⟩ := resumedMerged_frame reason s
  rw [enterUndoing, he]
  rfl

/-- R127, R129: outside OFF and the head phase a journaled access is treated by the state that the engine has come
to. -/
theorem classify_afresh_of_journaled {s t : State} {a : HalfAddr} (d : Direction) (hj : journaled s a = true)
    (hm : s.engine.mode ≠ .off) (hb : s.regions.areaBase = s.engine.base)
    (hs : s.regions.areaSlots = s.engine.slots) (hr : t.regions = s.regions)
    (htb : t.engine.base = s.engine.base) (hts : t.engine.slots = s.engine.slots)
    (htm : t.engine.mode ≠ .off) (hh : t.engine.mode.headPhase = false) :
    classify t a d = journaledTreatment t.engine.mode.name d :=
  classify_of_journaled d ((journaled_congr a hr htb hts htm hm).trans hj) (by rw [hr, hb, htb])
    (by rw [hr, hs, hts]) hh

end Sys2Proof.Machine

open Sys2Proof Sys2Proof.Machine Sys2Proof.Safety

/-- Settles O38: the slot leaves the journal, and the walk's place and a DISARM decide what follows. -/
theorem undoRemovesSlots : Obligations.UndoRemovesSlots := by
  intro s v u h hacc hm hs freed removed ended
  have slot : slotRemoved u h freed = removed := rfl
  refine ⟨?_, fun ht hfill hk g => ?_⟩
  · have completed : advanceUndoing v u freed = voidDone u h freed := by simp only [advanceUndoing, hs]
    rw [exec_undoing hacc hm, completed, voidDone_eq, slot]
    clear_value removed
    rfl
  · obtain ⟨hwf, -⟩ := ht
    have save : removed = removeSave h freed := (if_neg (Nat.not_le.2 hfill)).trans (if_pos hk)
    rw [save]
    exact TouchMap.level_set _ _ _ _ hwf

/-- Settles O37: the accesses of a slot in their order, and each judgement by its tests. -/
theorem undoJudgesSlots : Obligations.UndoJudgesSlots := by
  intro s v u hacc hm freed goes faulted bad done
  have completed : done = .next (settle (advanceUndoing v u freed)) := exec_undoing hacc hm
  have stops : .next (settle (undoBad u freed)) = bad := by
    rw [undoBad_eq]
    rfl
  rw [completed]
  refine ⟨fun got hs hl => ?_, fun kind epoch seq subject level hs => ?_, fun h got hs hk => ?_,
    fun h data n hs => ?_⟩
  · rw [advanceUndoing_header hs hl]
    rfl
  · rw [advanceUndoing_judge hs]
    refine ⟨fun hw => ?_, fun hw => ?_⟩
    · rw [if_pos (by exact hw)]
      refine ⟨fun hn hk => ?_, fun hn hk hc hlow hhigh => ?_, fun hb => ?_⟩
      · rw [judgeWalk_save hn hk]
        rfl
      · rw [judgeWalk_released (by exact hn) (by exact hk) (by exact ⟨hc, hlow, hhigh⟩)]
        rfl
      · rw [judgeWalk_bad hb, stops]
    · rw [if_neg (by exact Nat.not_lt.2 hw)]
      refine ⟨fun ht => ?_, fun ht => ?_⟩
      · rw [judgeMarker_top ht]
        rfl
      · rw [judgeMarker_bad ht, stops]
  · refine ⟨fun hl => ?_, fun hl => ?_⟩
    · rw [advanceUndoing_data hs hl]
      rfl
    · rw [advanceUndoing_data_last hs hl]
      refine ⟨fun ht => ?_, fun ht => ?_⟩
      · rw [if_pos (by exact (saveTest_iff hk _ _ _).2 ht)]
        rfl
      · rw [if_neg (by exact mt (saveTest_iff hk _ _ _).1 ht), stops]
  · rw [advanceUndoing_restore hs]
    rfl

/-- Settles O40: the result, the undo of AUTO-UNDO by its target, and the held write in the state entered. -/
theorem resumeEnds : Obligations.ResumeEnds := by
  intro s reason ended merged afresh
  refine ⟨resumeEnd_plain reason s, fun hfill => ?_, fun hfill => ?_,
    fun a ha hst hd hj hm hb hs => ⟨fun hk hu => ?_, fun l hl hfill => ?_⟩⟩
  · rw [resumeEnd_auto, if_pos hfill]
    rfl
  · rw [resumeEnd_auto, if_neg (Nat.not_le.2 hfill), enterUndoing_resumedMerged]
    rfl
  · have treated := classify_afresh_of_journaled (t := setMode .active (resumed reason s)) a.dir hj hm hb hs
      rfl rfl rfl (by simp) rfl
    rw [resumeEnd_plain, enterActive_of_no_undo (by exact hu), restActive_of_no_mark (by exact hk),
      resolveHeld_of_held (by exact ha) hst, treated, hd]
    rfl
  · obtain ⟨he, hh, hr⟩ := resumedMerged_frame reason s
    have treated := classify_afresh_of_journaled (t := enterUndoing false (resumedMerged reason s)) a.dir
      hj hm hb hs hr (by simp [enterUndoing, he]) (by simp [enterUndoing, he]) (by simp [enterUndoing]) rfl
    have host : (enterUndoing false (resumedMerged reason s)).host = s.host := hh
    rw [resumeEnd_auto, if_neg (Nat.not_le.2 hfill),
      resolveHeld_host_of_hold (by rw [host]; exact ha) hst hl (treated.trans rfl), host]
end

section
/-! PROOFS. An UNDO with KEEP over one valid SAVE (R72 to R78): the accesses of the slot in order, and the memory after
each. -/

namespace Sys2Proof.Machine

open Sys2Proof.Safety

/-! ## The slot above the top checkpoint -/

section Slot
variable (s : State)

/-- R2: halfword i of the slot above the top checkpoint. -/
def topHalf (i : Nat) : Half := readHalf s.memory (slotAddr s.engine.base s.engine.topPosition i)

/-- R11: the first six halfwords of that slot. -/
def topHeader : SlotHeader := slotHeaderOf ((List.range 6).map (topHalf s))

/-- R16: its data. -/
def topData : List Half := (List.range 16).map fun j => topHalf s (6 + j)

theorem word_topData {j : Nat} (hj : j < 16) : word (topData s) j = topHalf s (6 + j) := by
  simp [word, topData, hj]

/-- The slot above the top checkpoint is the journal's last, and a valid SAVE (R76, R77). -/
structure TopSave : Prop where
  fill : s.engine.fill = s.engine.topPosition + 1
  kind : (topHeader s).kind = kindSave
  epoch : (topHeader s).epoch = s.engine.epoch
  sequence : (topHeader s).sequence.toNat = s.engine.topPosition
  sound : saveTest s.engine.base s.engine.slots (topHeader s) (topData s) = true

/-! ## The accesses of the undo in order -/

/-- R76 to R78: the step of the undo that its access n belongs to: 6 header reads, 16 data reads, 16 restore writes,
the VOID write. -/
def undoStepAt (n : Nat) : UndoStep :=
  if n < 6 then .header ((List.range n).map (topHalf s))
  else if n < 22 then .data (topHeader s) ((List.range (n - 6)).map fun j => topHalf s (6 + j))
  else if n < 38 then .restore (topHeader s) (topData s) (n - 22)
  else .void (topHeader s)

theorem undoStepAt_header {n : Nat} (h : n < 6) :
    undoStepAt s n = .header ((List.range n).map (topHalf s)) := if_pos h

theorem undoStepAt_data {j : Nat} (h : j < 16) :
    undoStepAt s (6 + j) = .data (topHeader s) ((List.range j).map fun j => topHalf s (6 + j)) := by
  rw [undoStepAt, if_neg (by omega), if_pos (by omega), Nat.add_sub_cancel_left]

theorem undoStepAt_restore {j : Nat} (h : j < 16) :
    undoStepAt s (22 + j) = .restore (topHeader s) (topData s) j := by
  rw [undoStepAt, if_neg (by omega), if_neg (by omega), if_pos (by omega), Nat.add_sub_cancel_left]

theorem undoStepAt_void : undoStepAt s 38 = .void (topHeader s) := rfl

/-- R74: the undo with the values fixed at its entry, at its access n. -/
def keepWork (n : Nat) : UndoWork :=
  { target := s.engine.topPosition, drop := false, walkDepth := s.engine.depth, disarm := false
    step := undoStepAt s n }

theorem setUndoStep_keepWork (n : Nat) {m : Nat} {step : UndoStep} (h : undoStepAt s m = step) (t : State) :
    setUndoStep (keepWork s n) step t = setMode (.undoing (keepWork s m)) t := by
  rw [← h]
  rfl

/-- Access n of the undo. -/
def keepAccess (n : Nat) : MemAccess := undoAccess s.engine (keepWork s n)

/-- R78: the 16 accesses after the reads write the data back. -/
theorem keepAccess_restore {j : Nat} (h : j < 16) :
    keepAccess s (22 + j) = writeAt (granuleAddr (topHeader s).subject.toNat j) (topHalf s (6 + j)) := by
  simp only [keepAccess, undoAccess, keepWork, undoStepAt_restore s h, word_topData s h]

/-- The memory after the grants of the first n accesses. -/
def undoneMemory : Nat → Memory
  | 0 => s.memory
  | n + 1 => performAccess (undoneMemory n) (keepAccess s n)

theorem wf_undoneMemory (h : MemoryForm s) (n : Nat) : Memory.wf (undoneMemory s n) := by
  induction n with
  | zero => exact h
  | succ n ih => exact wf_performAccess _ _ ih

variable {s} (hs : TopSave s)
include hs

/-- R76, R77: the first 22 accesses read the slot. -/
theorem keepAccess_read {n : Nat} (h : n < 22) :
    keepAccess s n = readAt (slotAddr s.engine.base s.engine.topPosition n) := by
  have index : s.engine.fill - 1 = s.engine.topPosition := by rw [hs.fill, Nat.add_sub_cancel]
  rcases Nat.lt_or_ge n 6 with h6 | h6
  · simp [keepAccess, undoAccess, keepWork, undoStepAt_header s h6, index]
  · obtain ⟨j, rfl⟩ := Nat.exists_eq_add_of_le h6
    simp [keepAccess, undoAccess, keepWork, undoStepAt_data s (j := j) (by omega), index]

/-- R78: the last writes VOID over the slot's kind. -/
theorem keepAccess_void :
    keepAccess s 38 = writeAt (slotAddr s.engine.base s.engine.topPosition 0) kindVoid := by
  simp only [keepAccess, undoAccess, keepWork, undoStepAt_void, hs.fill, Nat.add_sub_cancel]

/-! ## The memory -/

theorem undoneMemory_of_read {n : Nat} (h : n ≤ 22) : undoneMemory s n = s.memory := by
  induction n with
  | zero => rfl
  | succ n ih =>
    rw [undoneMemory, keepAccess_read hs h, ih (by omega)]
    rfl

/-- Each read of the slot finds the halfword that stood there at the entry. -/
theorem readHalf_undoneMemory {n : Nat} (h : n < 22) :
    readHalf (undoneMemory s n) (keepAccess s n).addr = topHalf s n := by
  rw [undoneMemory_of_read hs (Nat.le_of_lt h), keepAccess_read hs h]
  rfl

/-- R77: the slot's subject is a granule of the memory. -/
theorem TopSave.subject_lt : (topHeader s).subject.toNat < 32768 := by
  obtain ⟨-, -, -, hg, -⟩ := (saveTest_iff hs.kind _ _ _).1 hs.sound
  omega

variable (hwf : MemoryForm s) (hfit : s.engine.base * 1024 + 128 + 44 * s.engine.slots ≤ 1048576)
  (hfill : s.engine.fill ≤ s.engine.slots)
include hwf hfit hfill

/-- R78: after j restore writes the first j halfwords of the granule hold the slot's data. -/
theorem read_undoneMemory_restored {j : Nat} (hj : j ≤ 16) (a : Nat) :
    Memory.read (undoneMemory s (22 + j)) a
      = if 32 * (topHeader s).subject.toNat ≤ a ∧ a < 32 * (topHeader s).subject.toNat + 2 * j then
          Memory.read s.memory (s.engine.base * 1024 + 128 + 44 * s.engine.topPosition + 12
            + (a - 32 * (topHeader s).subject.toNat))
        else Memory.read s.memory a := by
  induction j with
  | zero => rw [undoneMemory_of_read hs (Nat.le_refl 22), if_neg (by omega)]
  | succ j ih =>
    have filled := hs.fill
    have granule := granuleAddr_toNat hs.subject_lt (show j < 16 by omega)
    have place := slotAddr_toNat hfit (k := s.engine.topPosition) (i := 6 + j) (by omega) (by omega)
    rw [← Nat.add_assoc, undoneMemory, keepAccess_restore s (by omega),
      read_performAccess _ (wf_undoneMemory s hwf _) _ _ rfl, ih (by omega)]
    simp only [storesTo, writeAt, bothLanes, Option.isSome_some, Bool.true_and, Bool.or_eq_true,
      beq_iff_eq, granule]
    by_cases hnew : a / 2 = (topHeader s).subject.toNat * 16 + j
    · rw [if_pos (by omega), topHalf, readHalf, lowByte_joinHalf, highByte_joinHalf, place]
      rcases Nat.mod_two_eq_zero_or_one a with even | odd
      · rw [if_pos even, if_pos (by omega)]
        congr 1
        omega
      · rw [if_neg (by omega), if_pos (by omega)]
        congr 1
        omega
    · have inside : (32 * (topHeader s).subject.toNat ≤ a ∧ a < 32 * (topHeader s).subject.toNat + 2 * (j + 1))
          ↔ (32 * (topHeader s).subject.toNat ≤ a ∧ a < 32 * (topHeader s).subject.toNat + 2 * j) := by omega
      rw [if_neg (by omega), if_congr inside rfl rfl]

/-- R78: after the VOID write the granule holds the slot's data, the slot's kind is VOID, and every other byte
stands. -/
theorem read_undoneMemory (a : Nat) : Memory.read (undoneMemory s (38 + 1)) a
      = if 32 * (topHeader s).subject.toNat ≤ a ∧ a < 32 * (topHeader s).subject.toNat + 32 then
          Memory.read s.memory (s.engine.base * 1024 + 128 + 44 * s.engine.topPosition + 12
            + (a - 32 * (topHeader s).subject.toNat))
        else if a = s.engine.base * 1024 + 128 + 44 * s.engine.topPosition ∨
            a = s.engine.base * 1024 + 128 + 44 * s.engine.topPosition + 1 then 0x00#8
        else Memory.read s.memory a := by
  have filled := hs.fill
  obtain ⟨-, -, -, -, apart⟩ := (saveTest_iff hs.kind _ _ _).1 hs.sound
  have place := slotAddr_toNat hfit (k := s.engine.topPosition) (i := 0) (by omega) (by omega)
  have void_bytes : (if a % 2 = 0 then lowByte kindVoid else highByte kindVoid) = 0x00#8 := ite_self _
  rw [undoneMemory, keepAccess_void hs, read_performAccess _ (wf_undoneMemory s hwf _) _ _ rfl, void_bytes,
    read_undoneMemory_restored hs hwf hfit hfill (Nat.le_refl 16)]
  simp only [storesTo, writeAt, bothLanes, Option.isSome_some, Bool.true_and, Bool.or_eq_true, beq_iff_eq, place]
  by_cases hkind : a / 2 = s.engine.base * 512 + 64 + 22 * s.engine.topPosition
  · rw [if_pos (by omega), if_neg (by omega), if_pos (by omega)]
  · rw [if_neg (by omega)]
    refine if_congr (by omega) rfl ?_
    rw [if_neg (by omega)]

end Slot

end Sys2Proof.Machine
end

section
/-! PROOFS. The run of an UNDO with KEEP over one valid SAVE (R72 to R78, R81): the state after each of its 40
commands. -/

namespace Sys2Proof.Machine

open Sys2Proof.Safety

/-! ## The states of the run -/

/-- R36, R140: the engine rests in ACTIVE with no request pending, and neither the host nor the port has an access in
progress. -/
structure AtRest (s : State) : Prop where
  running : s.power = .running
  mode : s.engine.mode = .active
  access : s.host.access = none
  port : PortEmpty s
  mark : s.engine.markPending = false
  undo : s.engine.undoPending = false

/-- R169, R176, R185: the link with the UNDO answered ACCEPTED in a new frame, the series before it ended. -/
def acceptedLink (l : Link) : Link :=
  { l with
    selected := true
    frame := some { code := 0x24#8, response := some (responseOf .accepted []) }
    reader := none }

theorem replied_link_eq_acceptedLink (s : State) :
    (replied 0x24#8 .accepted [] (frameBegun s)).link = acceptedLink s.link := by
  unfold replied frameBegun seriesEnded
  split
  · rfl
  · rename_i no_series
    have reader : s.link.reader = none := by simpa using no_series
    rw [acceptedLink, ← reader]
    rfl

/-- The state of the undo while its access n is in progress at the port. -/
def undoingState (s : State) (n : Nat) (rest : List Instr) : State :=
  { s with
    pending := rest
    engine := { s.engine with mode := .undoing (keepWork s n), undoCount := 0, undoOutcome := .none }
    port := {
      busy := some { who := .engine, access := keepAccess s n
                     seen := readHalf (undoneMemory s n) (keepAccess s n).addr, discard := false }
      last := if n = 0 then s.port.last else .engine
      forward := none
      engine := none
      link := none }
    causes := (renew s).causes
    link := acceptedLink s.link
    memory := undoneMemory s (n + 1) }

/-- The same state before the close of its event: access n not yet granted. -/
def undoingOpen (s : State) (n : Nat) (rest : List Instr) (c : CauseUnit) : State :=
  { undoingState s n rest with
    port := { busy := none, last := if n = 0 then s.port.last else .engine, forward := none
              engine := none, link := none }
    causes := c
    memory := undoneMemory s n }

/-- The state after the undo, with the memory `m`. -/
def undoneState (s : State) (m : Memory) (rest : List Instr) : State :=
  { s with
    pending := rest
    engine := { s.engine with fill := s.engine.topPosition, undoCount := 1, undoOutcome := .normal }
    touch := TouchMap.set s.touch (topHeader s).subject.toNat (levelByte (topHeader s))
    port := { s.port with last := .engine }
    causes := CauseUnit.follow { s.causes with
      latches := s.causes.latches ||| heldLatches s ||| causeBit (causeNumber .undoEnd) }
    link := acceptedLink s.link
    memory := m }

/-- R139, R140, R157: the close of the event grants access n of the undo. -/
theorem settle_undoingOpen {s : State} (hm : s.engine.mode = .active) (n : Nat) (rest : List Instr)
    {c : CauseUnit} (hc : c = s.causes ∨ c = (renew s).causes) :
    settle (undoingOpen s n rest c) = undoingState s n rest := by
  have wanted : (undoingOpen s n rest c).engine.wanted = some (keepAccess s n) := rfl
  have held : heldLatches (undoingOpen s n rest c) = heldLatches s :=
    heldLatches_congr (by simp [haltedHolds, undoingOpen, undoingState, hm]) rfl rfl
  have causes : (renew (undoingOpen s n rest c)).causes = (renew s).causes := by
    rcases hc with rfl | rfl
    · rw [renew_causes, held]
      rfl
    · rw [renew_of_follow (t := undoingOpen s n rest (renew s).causes) (u := s.causes) rfl, held,
        BitVec.or_assoc, BitVec.or_self]
      rfl
  rw [settle_engine wanted rfl rfl rfl, causes]
  rfl

/-! ## The entry -/

/-- R140, R185: at an empty port a frame that begins changes the link alone. -/
theorem frameBegun_of_portEmpty {s : State} (h : PortEmpty s) :
    frameBegun s = { s with link := (frameBegun s).link } := by
  unfold frameBegun seriesEnded
  split
  · rw [port_eq_of_portEmpty h]
    rfl
  · rfl

/-- R149: with no host access there is no forward to classify afresh. -/
theorem reclassifyWaiting_of_no_access {s : State} (h : s.host.access = none) : reclassifyWaiting s = s := by
  simp only [reclassifyWaiting, h]

/-- R72, R74, R76: the UNDO is accepted, and the first header read of the slot is granted. -/
theorem exec_undoEntry {s : State} {crc : Byte} (hr : AtRest s) (ht : Taken (.undo 0x00#8 crc) s)
    (hs : TopSave s) : exec (.undo 0x00#8 crc) s = .next (undoingState s 0 s.pending) := by
  obtain ⟨-, he, -⟩ := frameBegun_frame s
  have above : (frameBegun s).engine.topPosition < (frameBegun s).engine.fill := by
    rw [he, hs.fill]
    exact Nat.lt_succ_self _
  rw [exec_undo_active ht hr.mode, undoTested_eq, if_pos (show (0x00#8).toNat = 0 from rfl), accepted,
    beginUndo_of_walk (.inr above), reclassifyWaiting_of_no_access (by simp [enterUndoing, hr.access]),
    ← settle_undoingOpen hr.mode 0 s.pending (.inl rfl), frameBegun_of_portEmpty hr.port]
  congr 2
  unfold undoingOpen
  rw [if_pos rfl, ← port_eq_of_portEmpty hr.port, undoingState, ← replied_link_eq_acceptedLink]
  rfl

/-! ## The accesses -/

section Accesses
variable {s : State} {rest : List Instr}

/-- R139: access n completes at the freed port. -/
theorem exec_undoingState (hrun : s.power = .running) (n : Nat) :
    exec .engineAccessComplete (undoingState s n rest) = .next (settle (advanceUndoing
      (readHalf (undoneMemory s n) (keepAccess s n).addr) (keepWork s n)
      (portFreed .engine (undoingState s n rest)))) :=
  exec_undoing ⟨hrun, rfl, rfl⟩ rfl

/-- R76: a header read joins those before it, and the sixth finds a SAVE slot. -/
theorem advanceUndoing_keepHeader (hs : TopSave s) {n : Nat} (hn : n < 6) {t : State}
    (ht : t.engine.fill = s.engine.fill ∧ t.engine.epoch = s.engine.epoch) :
    advanceUndoing (topHalf s n) (keepWork s n) t = setMode (.undoing (keepWork s (n + 1))) t := by
  obtain ⟨hfill, hepoch⟩ := ht
  have step : (keepWork s n).step = .header ((List.range n).map (topHalf s)) := undoStepAt_header s hn
  rcases Nat.lt_or_ge n 5 with h5 | h5
  · rw [advanceUndoing_header step (by simpa using h5)]
    exact setUndoStep_keepWork s n (by simp [undoStepAt_header s (Nat.succ_lt_succ h5), List.range_succ]) t
  · obtain rfl : n = 5 := by omega
    have above : (keepWork s 5).target < t.engine.fill := by
      rw [hfill, hs.fill]
      exact Nat.lt_succ_self _
    have valid : (topHeader s).epoch = t.engine.epoch ∧ (topHeader s).sequence.toNat = t.engine.fill - 1 := by
      rw [hepoch, hfill, hs.fill]
      exact ⟨hs.epoch, hs.sequence⟩
    rw [advanceUndoing_judge step, if_pos above]
    exact (judgeWalk_save valid hs.kind).trans (setUndoStep_keepWork s 5 (undoStepAt_data s (j := 0) (by omega)) t)

/-- R77: a data read joins those before it, and after the sixteenth the slot passes its tests. -/
theorem advanceUndoing_keepData (hs : TopSave s) {j : Nat} (hj : j < 16) {t : State}
    (ht : t.engine.base = s.engine.base ∧ t.engine.slots = s.engine.slots) :
    advanceUndoing (topHalf s (6 + j)) (keepWork s (6 + j)) t
      = setMode (.undoing (keepWork s (6 + j + 1))) t := by
  obtain ⟨hbase, hslots⟩ := ht
  have step : (keepWork s (6 + j)).step
      = .data (topHeader s) ((List.range j).map fun j => topHalf s (6 + j)) := undoStepAt_data s hj
  rcases Nat.lt_or_ge j 15 with h15 | h15
  · rw [advanceUndoing_data step (by simpa using h15)]
    exact setUndoStep_keepWork s (6 + j)
      (by simp [Nat.add_assoc, undoStepAt_data s (Nat.succ_lt_succ h15), List.range_succ]) t
  · obtain rfl : j = 15 := by omega
    have sound : saveTest t.engine.base t.engine.slots (topHeader s)
        ((List.range 15).map (fun j => topHalf s (6 + j)) ++ [topHalf s (6 + 15)]) = true := by
      rw [hbase, hslots]
      exact hs.sound
    rw [advanceUndoing_data_last step (by simp), if_pos sound]
    exact setUndoStep_keepWork s 21 (undoStepAt_restore s (j := 0) (by omega)) t

/-- R78: a restore write is followed by the next, and the sixteenth by the VOID write. -/
theorem advanceUndoing_keepRestore (v : Half) {j : Nat} (hj : j < 16) (t : State) :
    advanceUndoing v (keepWork s (22 + j)) t = setMode (.undoing (keepWork s (22 + j + 1))) t := by
  rw [advanceUndoing_restore (undoStepAt_restore s hj)]
  rcases Nat.lt_or_ge j 15 with h15 | h15
  · rw [if_pos h15]
    exact setUndoStep_keepWork s (22 + j) (undoStepAt_restore s (Nat.succ_lt_succ h15)) t
  · obtain rfl : j = 15 := by omega
    exact setUndoStep_keepWork s 37 (undoStepAt_void s) t

/-- R76 to R78: each of the first 38 accesses is followed by the next. -/
theorem exec_undoingState_next (hr : AtRest s) (hs : TopSave s) {n : Nat} (hn : n < 38) :
    exec .engineAccessComplete (undoingState s n rest) = .next (undoingState s (n + 1) rest) := by
  have next : advanceUndoing (readHalf (undoneMemory s n) (keepAccess s n).addr) (keepWork s n)
      (portFreed .engine (undoingState s n rest))
        = setMode (.undoing (keepWork s (n + 1))) (portFreed .engine (undoingState s n rest)) := by
    rcases Nat.lt_or_ge n 22 with h22 | h22
    · rw [readHalf_undoneMemory hs h22]
      rcases Nat.lt_or_ge n 6 with h6 | h6
      · exact advanceUndoing_keepHeader hs h6 ⟨rfl, rfl⟩
      · obtain ⟨j, rfl⟩ := Nat.exists_eq_add_of_le h6
        exact advanceUndoing_keepData hs (by omega) ⟨rfl, rfl⟩
    · obtain ⟨j, rfl⟩ := Nat.exists_eq_add_of_le h22
      exact advanceUndoing_keepRestore _ (by omega) _
  rw [exec_undoingState hr.running, next, ← settle_undoingOpen hr.mode (n + 1) rest (.inr rfl)]
  rfl

end Accesses

/-! ## The VOID write -/

section Void
variable {s : State} {rest : List Instr}

/-- R41: JOURNAL_HIGH's condition that holds when the SAVE is removed held at the entry. -/
theorem heldLatches_undoneState (hs : TopSave s) (m : Memory) (rest : List Instr) :
    heldLatches s ||| heldLatches (undoneState s m rest) = heldLatches s := by
  have one_more : filledLatches (undoneState s m rest) = heldLatches s :=
    heldLatches_congr rfl rfl hs.fill.symm
  rw [← one_more, BitVec.or_comm]
  exact heldLatches_or_filled _

/-- R78, R81: the removal of the last SAVE above the target ends an undo with KEEP, and the engine rests in ACTIVE. -/
theorem advanceUndoing_lastSave {u : UndoWork} {h : SlotHeader} {t : State} (v : Half) (hstep : u.step = .void h)
    (hdisarm : u.disarm = false) (hdrop : u.drop = false) (hfill : t.engine.fill = u.target + 1)
    (hkind : h.kind = kindSave) (hu : t.engine.undoPending = false) (hk : t.engine.markPending = false)
    (ha : t.host.access = none) :
    advanceUndoing v u t = setMode .active (raise .undoEnd (setUndoOutcome .normal (removeSave h t))) := by
  have completed : advanceUndoing v u t = voidDone u h t := by simp only [advanceUndoing, hstep]
  have removed : slotRemoved u h t = removeSave h t := by
    rw [slotRemoved, if_neg (by omega), if_pos hkind]
  rw [completed, voidDone_eq, if_neg (by simp [hdisarm]), if_neg (by simp [hfill, hdrop]), removed,
    enterActive_undoNormal, enterActive_idle (by exact hu) (by exact hk) (by exact ha)]

/-- R78, R81: the VOID write removes the SAVE, and the engine's values are those of a finished undo. -/
theorem advanceUndoing_keepVoid (hr : AtRest s) (hs : TopSave s) (v : Half) :
    advanceUndoing v (keepWork s 38) (portFreed .engine (undoingState s 38 rest))
      = undoneState s (undoneMemory s (38 + 1)) rest := by
  have fill : s.engine.fill - 1 = s.engine.topPosition := by rw [hs.fill, Nat.add_sub_cancel]
  have active : { s.engine with
      mode := .active, fill := s.engine.topPosition, undoCount := 1, undoOutcome := .normal }
        = { s.engine with fill := s.engine.topPosition, undoCount := 1, undoOutcome := .normal } := by
    rw [← hr.mode]
  rw [advanceUndoing_lastSave v (undoStepAt_void s) rfl rfl (by exact hs.fill) hs.kind (by exact hr.undo)
      (by exact hr.mark) (by exact hr.access),
    undoneState, ← active, ← fill, port_eq_of_portEmpty hr.port, undoingState]
  generalize undoneMemory s (38 + 1) = m
  rfl

/-- R78, R81, R157: the VOID write completes, and nothing follows at the port. -/
theorem exec_undoingState_void (hr : AtRest s) (hs : TopSave s) :
    exec .engineAccessComplete (undoingState s 38 rest)
      = .next (undoneState s (undoneMemory s (38 + 1)) rest) := by
  rw [exec_undoingState hr.running, advanceUndoing_keepVoid hr hs]
  generalize undoneMemory s (38 + 1) = m
  obtain ⟨-, hf, he, hl⟩ := hr.port
  have wanted : (undoneState s m rest).engine.wanted = none := by
    simp [undoneState, Engine.wanted, hr.mode]
  have causes : (renew (undoneState s m rest)).causes = (undoneState s m rest).causes := by
    rw [renew_of_follow (u := s.causes) rfl, BitVec.or_assoc _ (causeBit _), BitVec.or_comm (causeBit _),
      ← BitVec.or_assoc, BitVec.or_assoc s.causes.latches, heldLatches_undoneState hs]
    rfl
  rw [settle_idle wanted hf he hl, causes]

end Void

/-! ## The whole run -/

/-- A command in the undo runs on the undo's state with the queue's rest. -/
theorem run_undoingState_cons {s t : State} {n : Nat} {c : Instr} {rest : List Instr} (k : Nat)
    (h : exec c (undoingState s n rest) = .next t) :
    Host.Core.run core (k + 1) (undoingState s n (c :: rest)) = Host.Core.run core k t :=
  run_cons k rfl h

/-- R76 to R78: from access n on, the accesses up to the VOID write follow one another. -/
theorem run_undoingState {s : State} (hr : AtRest s) (hs : TopSave s) (rest : List Instr) (k m n : Nat)
    (hn : n + m = 38) :
    Host.Core.run core (m + k) (undoingState s n (List.replicate m .engineAccessComplete ++ rest))
      = Host.Core.run core k (undoingState s 38 rest) := by
  induction m generalizing n with
  | zero =>
    obtain rfl : n = 38 := hn
    simp
  | succ m ih =>
    rw [Nat.add_right_comm m 1 k]
    exact (run_undoingState_cons (m + k) (exec_undoingState_next hr hs (by omega))).trans
      (ih (n + 1) (by omega))

/-- What an undo meets does not depend on the commands that wait. -/
theorem TopSave.withPending {s : State} (h : TopSave s) (q : List Instr) : TopSave { s with pending := q } :=
  ⟨h.fill, h.kind, h.epoch, h.sequence, h.sound⟩

theorem AtRest.withPending {s : State} (h : AtRest s) (q : List Instr) : AtRest { s with pending := q } :=
  ⟨h.running, h.mode, h.access, h.port, h.mark, h.undo⟩

/-- R72 to R78, R81: from its frame to the completion of its VOID write. -/
theorem run_undo {s : State} {crc : Byte} {rest : List Instr}
    (hq : s.pending = .undo 0x00#8 crc :: (List.replicate 39 .engineAccessComplete ++ rest))
    (ht : Taken (.undo 0x00#8 crc) s) (hr : AtRest s) (hs : TopSave s) :
    Host.Core.run core 40 s = .next (undoneState s (undoneMemory s (38 + 1)) rest) := by
  have entry := run_cons 39 hq (exec_undoEntry (hr.withPending _) ht (hs.withPending _))
  have slot := run_undoingState hr hs (.engineAccessComplete :: rest) 1 38 0 rfl
  have void : Host.Core.run core 1 (undoingState s 38 (.engineAccessComplete :: rest))
      = .next (undoneState s (undoneMemory s (38 + 1)) rest) :=
    run_undoingState_cons 0 (exec_undoingState_void hr hs)
  exact entry.trans (slot.trans void)

end Sys2Proof.Machine

open Sys2Proof Sys2Proof.Machine Sys2Proof.Safety

/-- Settles O60: the run ends in `undoneState`, over a memory with the granule restored and the slot voided. -/
theorem undoRun : Obligations.UndoRun := by
  intro s crc rest hq ht hm hacc hp hwf hblock hstack hk hu
  dsimp only
  have place (i : Nat) : BitVec.ofNat 19 ((s.engine.base * 1024 + 128 + 44 * s.engine.topPosition) / 2 + i)
      = slotAddr s.engine.base s.engine.topPosition i := by
    unfold slotAddr
    congr 1
    omega
  simp only [place]
  intro hfill hkind hepoch hseq hcheck hhigh hlevel hg hout
  obtain ⟨-, -, -, -, -, hslots, -⟩ := hblock
  obtain ⟨-, hbounds, -⟩ := hstack
  obtain ⟨-, -, -, -, -, hfull⟩ := hbounds ⟨by simp [hm], by simp [hm]⟩
  have rests : AtRest s := ⟨ht.1, hm, hacc, hp, hk, hu⟩
  have save : TopSave s := ⟨hfill, hkind, hepoch, hseq, (saveTest_iff (h := topHeader s) hkind _ _ _).2
    ⟨hcheck, hhigh, hlevel, hg, (granuleMeetsArea_eq_false_iff _ _ _).1 hout⟩⟩
  have bytes := read_undoneMemory save hwf (by omega) hfull
  refine ⟨_, run_undo hq ht rests save, ?_⟩
  generalize undoneMemory s (38 + 1) = m at *
  rw [replied_link_eq_acceptedLink]
  exact ⟨rfl, bytes⟩
end

section
/-! PROOFS. The scan of a resume (R106, R115 to R119): the tests of a slot, what an accepted slot changes, and the VOID
writes after the stop. -/

namespace Sys2Proof.Machine

open Sys2Proof.Safety

/-! ## The tests of a slot in the scan -/

/-- R188: the kinds that hold an entry. -/
theorem isEntryKind_iff (k : Half) :
    isEntryKind k = true ↔ k = kindSave ∨ k = kindMarker ∨ k = kindReleased := by
  simp [isEntryKind, or_assoc]

/-- R13: the check of a slot that holds data. -/
theorem headerCheckOk_save {h : SlotHeader} (hk : h.kind = kindSave) (data : List Half) :
    headerCheckOk h data = true ↔ h.check = saveCheck h.epoch h.sequence h.subject h.level data := by
  rw [headerCheckOk, if_pos hk, beq_iff_eq]

/-- R13: the check of a slot that holds none. -/
theorem headerCheckOk_not_save {h : SlotHeader} (hk : h.kind ≠ kindSave) (data : List Half) :
    headerCheckOk h data = true ↔ h.check = markerCheck h.epoch h.sequence h.subject h.level := by
  rw [headerCheckOk, if_neg hk, beq_iff_eq]

section Scan
variable {autoUndo : Bool} {level : Nat} {v : Half} {s : State}

/-- R115: the kind read decides whether the header is read on. -/
theorem scanKind_void : scanKind autoUndo level kindVoid s = scanStop autoUndo level .void s :=
  if_pos rfl

theorem scanKind_entry (hk : v = kindSave ∨ v = kindMarker ∨ v = kindReleased) :
    scanKind autoUndo level v s = setMode (.scanning autoUndo level (.header [v])) s := by
  have not_void : v ≠ kindVoid := by rcases hk with rfl | rfl | rfl <;> decide
  rw [scanKind, if_neg not_void, if_pos ((isEntryKind_iff v).2 hk)]

theorem scanKind_other (hv : v ≠ kindVoid) (hk : ¬ (v = kindSave ∨ v = kindMarker ∨ v = kindReleased)) :
    scanKind autoUndo level v s = scanStop autoUndo level .kind s := by
  rw [scanKind, if_neg hv, if_neg (mt (isEntryKind_iff v).1 hk)]

section Header
variable {h : SlotHeader}

/-- R115: epoch and sequence are tested first, in this order. -/
theorem scanHeader_epoch (he : h.epoch ≠ s.engine.epoch) :
    scanHeader autoUndo level h s = scanStop autoUndo level .epoch s :=
  if_pos he

theorem scanHeader_sequence (he : h.epoch = s.engine.epoch) (hq : h.sequence.toNat ≠ s.engine.fill) :
    scanHeader autoUndo level h s = scanStop autoUndo level .sequence s := by
  rw [scanHeader, if_neg (not_not.2 he), if_pos hq]

/-- R115: a SAVE of the right epoch and sequence has its data read before its check is tested. -/
theorem scanHeader_save (hn : h.epoch = s.engine.epoch ∧ h.sequence.toNat = s.engine.fill)
    (hk : h.kind = kindSave) :
    scanHeader autoUndo level h s = setMode (.scanning autoUndo level (.data h [])) s := by
  obtain ⟨he, hq⟩ := hn
  rw [scanHeader, if_neg (not_not.2 he), if_neg (not_not.2 hq), if_pos hk]

/-- R115, R117, R118: a slot without data is tested on its check, then by its kind. -/
theorem scanHeader_not_save (hn : h.epoch = s.engine.epoch ∧ h.sequence.toNat = s.engine.fill)
    (hk : h.kind ≠ kindSave) : scanHeader autoUndo level h s
      = if h.check = markerCheck h.epoch h.sequence h.subject h.level then
          if h.kind = kindMarker then scanMarker autoUndo level h s else scanReleased autoUndo level h s
        else scanStop autoUndo level .check s := by
  obtain ⟨he, hq⟩ := hn
  rw [scanHeader, if_neg (not_not.2 he), if_neg (not_not.2 hq), if_neg hk, ite_not]
  simp only [headerCheckOk_not_save hk]

theorem scanHeader_check (hn : h.epoch = s.engine.epoch ∧ h.sequence.toNat = s.engine.fill)
    (hk : h.kind ≠ kindSave) (hc : h.check ≠ markerCheck h.epoch h.sequence h.subject h.level) :
    scanHeader autoUndo level h s = scanStop autoUndo level .check s := by
  rw [scanHeader_not_save hn hk, if_neg hc]

theorem scanHeader_marker (hn : h.epoch = s.engine.epoch ∧ h.sequence.toNat = s.engine.fill)
    (hc : h.check = markerCheck h.epoch h.sequence h.subject h.level) (hk : h.kind = kindMarker) :
    scanHeader autoUndo level h s = scanMarker autoUndo level h s := by
  have not_save : h.kind ≠ kindSave := by rw [hk]; decide
  rw [scanHeader_not_save hn not_save, if_pos hc, if_pos hk]

theorem scanHeader_released (hn : h.epoch = s.engine.epoch ∧ h.sequence.toNat = s.engine.fill)
    (hc : h.check = markerCheck h.epoch h.sequence h.subject h.level) (hk : h.kind = kindReleased) :
    scanHeader autoUndo level h s = scanReleased autoUndo level h s := by
  have not_save : h.kind ≠ kindSave := by rw [hk]; decide
  have not_marker : h.kind ≠ kindMarker := by rw [hk]; decide
  rw [scanHeader_not_save hn not_save, if_pos hc, if_neg not_marker]

/-- R115, R116: a SAVE whose data have been read is tested on its check. -/
theorem scanData_eq (hk : h.kind = kindSave) (data : List Half) : scanData autoUndo level h data s
    = if h.check = saveCheck h.epoch h.sequence h.subject h.level data
      then scanNext autoUndo level (acceptSave level h s) else scanStop autoUndo level .check s := by
  simp only [scanData, headerCheckOk_save hk]

end Header

/-- R115: past an accepted slot the scan reads the next, and at S the resume ends: no slot is left to void. -/
theorem scanNext_eq (autoUndo : Bool) (level : Nat) (s : State) : scanNext autoUndo level s
    = if s.engine.fill < s.engine.slots then setMode (.scanning autoUndo level (.header [])) s
      else resumeEnd autoUndo .atEnd s := by
  unfold scanNext
  split
  · rfl
  · rename_i full
    exact if_neg full

/-- R116: fill and the granule's level after an accepted SAVE. -/
theorem acceptSave_eq (level : Nat) (h : SlotHeader) (s : State) : acceptSave level h s
    = { s with
        engine := { s.engine with fill := s.engine.fill + 1 }
        touch := if h.subject.toNat ≤ 32767 then TouchMap.set s.touch h.subject.toNat level else s.touch } := by
  unfold acceptSave
  split <;> rfl

/-! ## The accesses of the scan -/

/-- R139: an access of SCANNING completes. -/
theorem exec_scanning {step : ScanStep} (h : EngineAccess s v)
    (hm : s.engine.mode = .scanning autoUndo level step) : exec .engineAccessComplete s
      = .next (settle (advanceScanning v autoUndo level step (portFreed .engine s))) := by
  rw [exec_of_engineAccess h]
  simp only [advance, portFreed, hm]

/-- R115: the header reads from the second to the fifth. -/
theorem advanceScanning_header {got : List Half} (hpos : 1 ≤ got.length) (hl : got.length < 5) :
    advanceScanning v autoUndo level (.header got) s
      = setMode (.scanning autoUndo level (.header (got ++ [v]))) s := by
  have more : (got ++ [v]).length < 6 := by simpa using by omega
  cases got with
  | nil => simp at hpos
  | cons k rest => exact if_pos more

/-- R115: the data reads up to the fifteenth, and the sixteenth. -/
theorem advanceScanning_data {h : SlotHeader} {got : List Half} (hl : got.length < 15) :
    advanceScanning v autoUndo level (.data h got) s
      = setMode (.scanning autoUndo level (.data h (got ++ [v]))) s := by
  have more : (got ++ [v]).length < 16 := by simpa using by omega
  exact if_pos more

theorem advanceScanning_data_last {h : SlotHeader} {got : List Half} (hl : got.length = 15) :
    advanceScanning v autoUndo level (.data h got) s = scanData autoUndo level h (got ++ [v]) s := by
  have last : ¬ (got ++ [v]).length < 16 := by simp [hl]
  exact if_neg last

/-- R106: the VOID writes up to slot S − 1, and the end of the resume. -/
theorem advanceScanning_voiding (k : Nat) (r : StopReason) : advanceScanning v autoUndo level (.voiding k r) s
    = if k + 1 < s.engine.slots then setMode (.scanning autoUndo level (.voiding (k + 1) r)) s
      else resumeEnd autoUndo r s := rfl

end Scan

end Sys2Proof.Machine

open Sys2Proof Sys2Proof.Machine Sys2Proof.Safety

/-- Settles O39: the accesses of a slot in their order, each stop by its test, and each acceptance by its kind. -/
theorem scanTakesSlots : Obligations.ScanTakesSlots := by
  intro s v auto l step hacc hm freed goes stop accept risen done
  have reached {x : State} (h : advanceScanning v auto l step freed = x) : done x :=
    (exec_scanning hacc hm).trans (congrArg _ (congrArg _ h))
  have accepts (l' : Nat) (x : State) : scanNext auto l' x = accept l' x := scanNext_eq auto l' x
  refine ⟨?_, ?_, ?_, ?_, ?_⟩
  · rintro rfl
    refine ⟨?_, fun hk => reached (scanKind_entry hk), fun hv hs hk hr => reached ?_⟩
    · rintro rfl
      exact reached scanKind_void
    · exact scanKind_other hv (by rintro (h | h | h) <;> contradiction)
  · rintro got rfl hpos hl
    exact reached (advanceScanning_header hpos hl)
  · rintro kind epoch seq subject level rfl _ n named checked
    refine ⟨fun he => reached (scanHeader_epoch he), fun he hq => reached (scanHeader_sequence he hq),
      fun hn hk => reached (scanHeader_save hn hk),
      fun hn hk hc => reached (scanHeader_check hn hk hc), fun hn hc hk => ?_, fun hn hc hk => ?_⟩
    · have marker := scanHeader_marker (autoUndo := auto) (level := l) (s := freed)
        (h := ⟨kind, epoch, seq, subject, level, v⟩) hn hc hk
      split_ifs with hnum
      · exact reached (marker.trans ((if_pos hnum).trans (accepts _ _)))
      · exact reached (marker.trans (if_neg hnum))
    · have released := scanHeader_released (autoUndo := auto) (level := l) (s := freed)
        (h := ⟨kind, epoch, seq, subject, level, v⟩) hn hc hk
      split_ifs with hnum
      · exact reached (released.trans ((if_pos hnum).trans (accepts _ _)))
      · exact reached (released.trans (if_neg hnum))
  · rintro h got rfl hk
    refine ⟨fun hl => reached (advanceScanning_data hl), fun hl => ?_⟩
    have data := (advanceScanning_data_last (autoUndo := auto) (level := l) (s := freed) (v := v) hl).trans
      (scanData_eq hk (got ++ [v]))
    rw [acceptSave_eq] at data
    split
    next hc => exact reached (data.trans ((if_pos hc).trans (accepts _ _)))
    next hc => exact reached (data.trans (if_neg hc))
  · rintro k r rfl
    exact reached (advanceScanning_voiding k r)
end

section
/-! PROOFS. The tests of a head record at the end of a resume's head phase (R111, R145, R187). -/

namespace Sys2Proof.Machine

/-! ## The range tests of an entry -/

theorem modeCode_le (m : RegionMode) : modeCode m ≤ 4 := by
  cases m <;> decide

/-- R143: the modes and their codes name each other. -/
theorem modeOfCode_eq_some_iff {code : Nat} {m : RegionMode} :
    modeOfCode code = some m ↔ modeCode m = code := by
  constructor
  · intro h
    unfold modeOfCode at h
    split at h <;> cases h <;> rfl
  · rintro rfl
    cases m <;> rfl

/-- R145: an entry passes exactly when its mode code, base and length are in range. -/
theorem regionOf_eq_some_iff {code base length : Nat} {r : Region} : regionOf code base length = some r ↔
    code ≤ 4 ∧ base ≤ 1023 ∧ 1 ≤ length ∧ length ≤ 1024 ∧ base + length ≤ 1024 ∧
      modeCode r.mode = code ∧ r.base = base ∧ r.length = length := by
  constructor
  · intro h
    obtain ⟨hb, hl, -⟩ := regionOf_eq_some h
    obtain ⟨hbase, hpos, hlen, hsum⟩ := inRange_of_regionOf h
    have hcode : modeCode r.mode = code := by
      unfold regionOf at h
      split at h
      · cases h
      next hmode =>
        split at h <;> cases h
        exact modeOfCode_eq_some_iff.1 hmode
    subst hb hl hcode
    exact ⟨modeCode_le r.mode, hbase, hpos, hlen, hsum, rfl, rfl, rfl⟩
  · obtain ⟨mode, b, len⟩ := r
    rintro ⟨-, hbase, hpos, hlen, hsum, rfl, rfl, rfl⟩
    rw [regionOf, modeOfCode_eq_some_iff.2 rfl]
    exact if_pos ⟨hbase, hpos, hlen, hsum⟩

/-! ## The table copy of a head record -/

/-- R111: a head has no whole table exactly when one of its entries fails the range tests. -/
theorem headTable_eq_none_iff {ws : List Half} :
    headTable ws = none ↔ ∃ i : Fin 8, headRegionOf ws i.val = none := by
  constructor
  · intro hnone
    by_contra! hall
    obtain ⟨t, ht⟩ := headTable_of_isSome fun i => Option.isSome_iff_ne_none.2 (hall i)
    rw [hnone] at ht
    cases ht
  · rintro ⟨i, hi⟩
    cases ht : headTable ws with
    | none => rfl
    | some t =>
      rw [headTable_get ht i] at hi
      cases hi

/-- R146: a JOURNAL entry shares a byte with a configured area. -/
def JournalMeetsArea (base slots : Nat) (r : Region) : Prop :=
  r.mode = .journal ∧ max (r.base * 1024) (base * 1024)
    < min ((r.base + r.length) * 1024) (base * 1024 + 128 + 44 * slots)

/-- R146: over a configured area, an entry overlaps it exactly when it is a JOURNAL entry that shares a byte with it. -/
theorem overlapsArea_iff {slots : Nat} (hs : slots ≠ 0) (base : Nat) (r : Region) :
    overlapsArea base slots r = true ↔ JournalMeetsArea base slots r := by
  simp [overlapsArea, JournalMeetsArea, rangesMeet, areaBytes, hs, Nat.add_assoc]

/-- R111: a head's table overlaps the area exactly when one of the entries in its words does. -/
theorem tableOverlaps_headTable {ws : List Half} {t : Vector Region 8} (ht : headTable ws = some t)
    {slots : Nat} (hs : slots ≠ 0) (base : Nat) : tableOverlaps base slots t = true ↔
      ∃ i : Fin 8, ∃ r ∈ headRegionOf ws i.val, JournalMeetsArea base slots r := by
  have entries : tableOverlaps base slots t = true ↔ ∃ i : Fin 8, overlapsArea base slots (t.get i) = true := by
    simp [tableOverlaps, Vector.any_eq_true, Vector.get_eq_getElem, Fin.exists_iff]
  simp only [entries, overlapsArea_iff hs, headTable_get ht, Option.mem_some_iff, exists_eq_left']

/-! ## The outcome of the tests -/

/-- R111: one of the conditions of BAD-HEAD holds. -/
def HeadRejected (base : Nat) (ws : List Half) : Prop :=
  (headSlotsOf ws < 16 ∨ 8192 < headSlotsOf ws) ∨
  (headStateOf ws ≠ stateArmed ∧ headStateOf ws ≠ stateBroken ∧ headStateOf ws ≠ stateDisarmed) ∨
  headEpochOf ws = 0#16 ∨ 1048576 < base * 1024 + 128 + 44 * headSlotsOf ws ∨
  (∃ i : Fin 8, headRegionOf ws i.val = none) ∨
  (headStateOf ws ≠ stateDisarmed ∧
    ∃ i : Fin 8, ∃ r ∈ headRegionOf ws i.val, JournalMeetsArea base (headSlotsOf ws) r)

open Classical in
/-- R111: a head that is rejected is BAD-HEAD, and the outcome of any other follows its journal state. -/
theorem headOutcome_eq (base : Nat) (ws : List Half) : headOutcome base ws
    = if HeadRejected base ws then .badHead
      else if headStateOf ws = stateDisarmed then .notArmed
      else if headStateOf ws = stateBroken then .broken else .armed := by
  unfold headOutcome HeadRejected
  by_cases hslots : headSlotsOf ws < 16 ∨ 8192 < headSlotsOf ws
  · rw [if_pos hslots, if_pos (.inl hslots)]
  have configured : headSlotsOf ws ≠ 0 := by omega
  have fits : ¬ areaFits base (headSlotsOf ws) = true
      ↔ 1048576 < base * 1024 + 128 + 44 * headSlotsOf ws := by rw [areaFits_iff, Nat.not_le]
  rw [if_neg hslots]
  simp only [or_iff_right hslots, ite_or]
  refine if_congr .rfl rfl (if_congr .rfl rfl (if_congr fits rfl ?_))
  cases ht : headTable ws with
  | none => exact (if_pos (headTable_eq_none_iff.1 ht)).symm
  | some t =>
    have whole : ¬ ∃ i : Fin 8, headRegionOf ws i.val = none := by simp [← headTable_eq_none_iff, ht]
    rw [if_neg whole]
    exact if_congr (by rw [tableOverlaps_headTable ht configured]) rfl rfl

end Sys2Proof.Machine

open Sys2Proof Sys2Proof.Machine

/-- Settles O41: the range tests of an entry, and the conditions of BAD-HEAD against the three other outcomes. -/
theorem headRecordTests : Obligations.HeadRecordTests := by
  refine ⟨fun _ _ _ _ => regionOf_eq_some_iff, fun b ws => ?_⟩
  intro slots st entry rejected
  have conditions : rejected ↔ HeadRejected b ws := or_assoc.symm
  rw [headOutcome_eq, conditions]
  exact ⟨fun h => if_pos h, fun h => if_neg h⟩
end

section
/-! SUPPORT. The host's access through the operations of the engine (R127 to R136, R149): one law, `HostLaw`, that ties
the access to the memory port, and, as far as its two parts are asked for, keeps the waiting write outside the journal
area (R151) and saved at the present depth (R138). Each operation is shown once to keep it. -/

namespace Sys2Proof.Machine

open Sys2Proof.Safety

/-! ## The law -/

/-- What the operations of the engine and the host port leave as the event found it in `r`. -/
def Framed (r s : State) : Prop :=
  s.power = r.power ∧ s.link = r.link ∧ s.memory = r.memory ∧ s.port.busy = r.port.busy ∧ s.port.link = r.port.link

/-- R135, R136, R139: the access's forward waits at the port exactly while it is forwarding, and the port serves it
exactly while it is granted; a granted access runs no hold timer. -/
structure Tied (port : Port) (host : HostPort) : Prop where
  forward : port.forward = hostForward host
  granted : ∀ a ∈ host.access, a.stage = .granted → a.timer = none ∧ ∃ b ∈ port.busy, b.who = .forward
  served : ∀ b ∈ port.busy, b.who = .forward →
    b.discard = false ∧ ∃ a ∈ host.access, a.stage = .granted ∧ forwardAccess a = b.access

/-- R150: the region block's copy of the area is the engine's. -/
def SameArea (s : State) : Prop :=
  s.regions.areaBase = s.engine.base ∧ s.regions.areaSlots = s.engine.slots

/-- R49, R53, R151: what an access waits for is under way, and one that will go forward without a new classification
lies outside the area. -/
def HoldLaw (s : State) : Prop :=
  ∀ a ∈ s.host.access, holdFits s.engine.mode a = true ∧
    (a.stage = .held .save ∨ a.stage = .held .breakEnd →
      inArea s.engine.base s.engine.slots (2 * a.addr.toNat) = false)

/-- R47: a write held for a save lies in the save's granule. -/
def SaveLaw (s : State) : Prop :=
  ∀ a ∈ s.host.access, ∀ w, s.engine.mode = .saving w → a.stage = .held .save → granuleOf a.addr = w.granule

/-- R151: outside OFF no write that waits for its grant lies in the area, and none waits in the head phase. -/
def OutsideArea (s : State) : Prop :=
  s.engine.mode ≠ .off →
    (waitingWrite s).all (fun a => !inArea s.engine.base s.engine.slots (2 * a.toNat)) = true ∧
    (s.engine.mode.headPhase = true → s.port.forward = none)

/-- R138: outside OFF and BROKEN a journaled write that waits for its grant is saved at the present depth. -/
def SavedAtDepth (s : State) : Prop :=
  s.engine.mode ≠ .off → s.engine.mode ≠ .broken →
    (waitingWrite s).all (fun a => !journaled s a ||
      (grantsJournaled s.engine.mode &&
        TouchMap.level s.touch (granuleOf a).toNat == s.engine.stack.length)) = true

/-- The law of the access itself, whether its forward may wait or not: with `shield` the part that R151 needs, and with
`saved` beside it the part that R138 needs. -/
def AccessLaw (shield saved : Prop) (r s : State) : Prop :=
  Framed r s ∧ Tied s.port s.host ∧ (shield → SameArea s ∧ HoldLaw s) ∧ (shield → saved → SaveLaw s)

/-- The law of the access with its waiting forward. -/
def HostLaw (shield saved : Prop) (r s : State) : Prop :=
  AccessLaw shield saved r s ∧ (shield → OutsideArea s) ∧ (shield → saved → SavedAtDepth s)

theorem HostLaw.access {shield saved : Prop} {r s : State} (h : HostLaw shield saved r s) :
    AccessLaw shield saved r s := h.1

theorem HostLaw.framed {shield saved : Prop} {r s : State} (h : HostLaw shield saved r s) : Framed r s := h.access.1

theorem saveServes_iff (s : State) : saveServes s = true ↔ SaveLaw s := by
  unfold saveServes SaveLaw
  cases s.host.access with
  | none => simp
  | some a =>
    cases s.engine.mode with
    | saving w => simpa using Decidable.imp_iff_not_or.symm
    | _ => simp

/-! ## Modes -/

/-- R47, R53: no access is held for a save or a break in this mode. -/
def Mode.holdsNone : Mode → Bool
  | .saving _ => false
  | .breaking _ => false
  | _ => true

/-- R129: an operation that holds or refuses every journaled write, and runs no save and no break. -/
def Mode.barred : Mode → Bool
  | .off => false
  | .active => false
  | .saving _ => false
  | .breaking _ => false
  | .broken => false
  | _ => true

/-- SAVING and the head phase are entered with an access or without a forward; every other mode is common. -/
def Mode.common : Mode → Bool
  | .saving _ => false
  | .scanning _ _ (.heads _) => false
  | _ => true

theorem holdsNone_of_barred {m : Mode} (h : m.barred = true) : m.holdsNone = true := by
  cases m with
  | saving w => cases h
  | breaking step => cases h
  | _ => rfl

theorem not_grantsJournaled_of_barred {m : Mode} (h : m.barred = true) : grantsJournaled m = false := by
  cases m with
  | active => cases h
  | saving w => cases h
  | _ => rfl

theorem barred_of_headPhase {m : Mode} (h : m.headPhase = true) : m.barred = true := by
  cases m with
  | scanning autoUndo level step => rfl
  | _ => cases h

/-- R49, R53: in a mode without save and break no access is held for one. -/
theorem stage_of_holdsNone {m : Mode} {a : HostAccess} (hm : m.holdsNone = true) (h : holdFits m a = true) :
    a.stage ≠ .held .save ∧ a.stage ≠ .held .breakEnd := by
  constructor <;> intro hst <;> cases m <;> simp [holdFits, hst, Mode.holdsNone] at h hm

/-- An access that waits for no save and no break fits every mode. -/
theorem holdFits_of_stage {a : HostAccess} (hs : a.stage ≠ .held .save) (hb : a.stage ≠ .held .breakEnd) (m : Mode) :
    holdFits m a = true := by
  unfold holdFits
  split
  · exact absurd ‹_› hs
  · exact absurd ‹_› hs
  · rfl
  · exact absurd ‹_› hb
  · rfl

/-- A change of mode under which a waiting forward stays right without a new classification. -/
structure QuietForward (m n : Mode) : Prop where
  armed : n ≠ .off → m ≠ .off
  head : n.headPhase = true → m.headPhase = true
  save : ∀ w', n = .saving w' → ∃ w, m = .saving w ∧ w.granule = w'.granule
  grant : n ≠ .off → n ≠ .broken → m ≠ .broken ∧ (grantsJournaled m = true → grantsJournaled n = true)

/-- A change of mode under which a held access stays right too. -/
structure QuietMode (m n : Mode) : Prop extends QuietForward m n where
  hold : ∀ a, holdFits m a = true → holdFits n a = true

/-- R129: from an operation that bars journaled writes the engine goes on to any mode but SAVING, and into the head
phase only from it. -/
theorem quietMode_of_ne_saving {m n : Mode} (hm : m.barred = true) (hn : ∀ w, n ≠ .saving w)
    (hh : n.headPhase = true → m.headPhase = true) : QuietMode m n where
  hold a h := by
    obtain ⟨hs, hb⟩ := stage_of_holdsNone (holdsNone_of_barred hm) h
    exact holdFits_of_stage hs hb n
  armed _ h := by simp [h, Mode.barred] at hm
  head := hh
  save w h := absurd h (hn w)
  grant _ _ := ⟨fun h => by simp [h, Mode.barred] at hm, fun h => by simp [not_grantsJournaled_of_barred hm] at h⟩

theorem quietMode_of_barred {m n : Mode} (hm : m.barred = true) (hn : n.common = true) : QuietMode m n := by
  refine quietMode_of_ne_saving hm (fun w h => by simp [h, Mode.common] at hn) fun h => ?_
  unfold Mode.headPhase at h
  split at h
  · cases hn
  · cases h

theorem quietMode_active : QuietMode .active .active where
  hold _ h := h
  armed _ := nofun
  head h := h
  save _ := nofun
  grant _ _ := ⟨nofun, id⟩

/-- R49: a stored save ends in ACTIVE, where its write may still wait. -/
theorem quietMode_stored {w : SaveWork} (h : 39 ≤ w.done) : QuietMode (.saving w) .active where
  hold a hf := by
    refine holdFits_of_stage (fun hst => ?_) (fun hst => ?_) _
    · have : w.done ≤ 38 := by simpa [holdFits, hst] using hf
      omega
    · simp [holdFits, hst] at hf
  armed _ := nofun
  head := nofun
  save _ := nofun
  grant _ _ := ⟨nofun, fun _ => rfl⟩

/-- R48: but for its kind write a save goes on with its access held and its granule not yet saved, as before. -/
theorem quietMode_saving {w : SaveWork} (h : w.done ≠ 38) (data : List Half) :
    QuietMode (.saving w) (.saving { w with done := w.done + 1, data := data }) where
  hold a hf := by
    have hb : a.stage ≠ .held .breakEnd := fun hst => by simp [holdFits, hst] at hf
    by_cases hs : a.stage = .held .save
    · simp only [holdFits, hs, decide_eq_true_eq] at hf ⊢
      omega
    · exact holdFits_of_stage hs hb _
  armed _ := nofun
  head := nofun
  save x hx := by
    cases hx
    exact ⟨w, rfl, rfl⟩
  grant _ _ := by
    refine ⟨nofun, fun hg => ?_⟩
    have : 39 ≤ w.done := by simpa [grantsJournaled, saveStored] using hg
    simp [grantsJournaled, saveStored, show 39 ≤ w.done + 1 by omega]

/-- R53: a break goes on to its next access or its sweep. -/
theorem quietMode_breaking (x y : CloseStep) : QuietMode (.breaking x) (.breaking y) where
  hold a h := by
    by_cases hst : a.stage = .held .breakEnd
    · simp [holdFits, hst]
    · exact holdFits_of_stage (fun hs => by simp [holdFits, hs] at h) hst _
  armed _ := nofun
  head := nofun
  save _ := nofun
  grant _ _ := ⟨nofun, nofun⟩

/-! ## Changes of the engine -/

section Law
variable {shield saved : Prop} {r s : State}

theorem Framed.refl (s : State) : Framed s s := ⟨rfl, rfl, rfl, rfl, rfl⟩

/-- The law read at another state of reference. -/
theorem HostLaw.rebase {r' : State} (h : HostLaw shield saved r s) (f : Framed r' s) : HostLaw shield saved r' s := by
  obtain ⟨⟨-, access⟩, waits⟩ := h
  exact ⟨⟨f, access⟩, waits⟩

/-- Without a waiting forward nothing can reach the area or an unsaved granule. -/
theorem HostLaw.of_no_forward (h : AccessLaw shield saved r s) (hf : s.port.forward = none) :
    HostLaw shield saved r s := by
  have none_waits : waitingWrite s = none := by simp only [waitingWrite, hf]
  exact ⟨h, fun _ _ => ⟨by simp [none_waits], fun _ => hf⟩, fun _ _ _ _ => by simp [none_waits]⟩

/-- R125: with no access in progress and no forward the law holds in every state of the engine. -/
theorem hostLaw_of_no_access (hframe : Framed r s) (ha : s.host.access = none) (hf : s.port.forward = none)
    (hb : ∀ b ∈ s.port.busy, b.who ≠ .forward) (harea : shield → SameArea s) : HostLaw shield saved r s := by
  refine .of_no_forward ⟨hframe, ⟨?_, ?_, fun b hm hw => absurd hw (hb b hm)⟩, fun hs => ⟨harea hs, ?_⟩, ?_⟩ hf
  · simp only [hf, hostForward, ha]
  · simp [ha]
  · simp [HoldLaw, ha]
  · simp [SaveLaw, ha]

theorem AccessLaw.setMode {m : Mode} (h : AccessLaw shield saved r s) (hs : s.engine.mode.holdsNone = true)
    (hn : ∀ w, m ≠ .saving w) : AccessLaw shield saved r (setMode m s) := by
  obtain ⟨⟨power, link, memory, busy, request⟩, tied, hold, -⟩ := h
  refine ⟨⟨power, link, memory, busy, request⟩, tied, fun hsh => ?_, fun _ _ => ?_⟩
  · obtain ⟨harea, hold⟩ := hold hsh
    refine ⟨harea, fun a ha => ?_⟩
    obtain ⟨hfit, hout⟩ := hold a ha
    obtain ⟨hsave, hbreak⟩ := stage_of_holdsNone hs hfit
    exact ⟨holdFits_of_stage hsave hbreak _, hout⟩
  · exact fun a _ w hm => absurd hm (hn w)

theorem HostLaw.setMode_of_hold {m : Mode} (h : HostLaw shield saved r s) (q : QuietForward s.engine.mode m)
    (fits : ∀ a ∈ s.host.access, holdFits s.engine.mode a = true → holdFits m a = true) :
    HostLaw shield saved r (setMode m s) := by
  obtain ⟨⟨⟨power, link, memory, busy, request⟩, tied, hold, serves⟩, outside, covered⟩ := h
  refine ⟨⟨⟨power, link, memory, busy, request⟩, tied, fun hsh => ?_, fun hsh hsv => ?_⟩, fun hsh hm => ?_,
    fun hsh hsv hoff hbroken => ?_⟩
  · obtain ⟨harea, hold⟩ := hold hsh
    exact ⟨harea, fun a ha => ⟨fits a ha (hold a ha).1, (hold a ha).2⟩⟩
  · intro a ha w' hm hst
    obtain ⟨w, hw, hg⟩ := q.save w' hm
    exact (serves hsh hsv a ha w hw hst).trans hg
  · obtain ⟨hout, hhead⟩ := outside hsh (q.armed hm)
    exact ⟨hout, fun hh => hhead (q.head hh)⟩
  · have armed := q.armed hoff
    obtain ⟨unbroken, grants⟩ := q.grant hoff hbroken
    have before := covered hsh hsv armed unbroken
    simp only [Option.all_eq_true, Bool.or_eq_true, Bool.and_eq_true] at before ⊢
    intro a ha
    rcases before a ha with hj | ⟨hg, hl⟩
    · rw [journaled_congr a (s := s) (t := Machine.setMode m s) rfl rfl rfl hoff armed]
      exact .inl hj
    · exact .inr ⟨grants hg, hl⟩

theorem HostLaw.setMode {m : Mode} (h : HostLaw shield saved r s) (q : QuietMode s.engine.mode m) :
    HostLaw shield saved r (setMode m s) :=
  h.setMode_of_hold q.toQuietForward fun a _ => q.hold a

/-- R138: while no journaled write may be granted, stack and touch map move freely. -/
theorem HostLaw.relevel (h : HostLaw shield saved r s) (hg : grantsJournaled s.engine.mode = false)
    (l : List Checkpoint) (t : TouchMap) :
    HostLaw shield saved r { s with engine := { s.engine with stack := l }, touch := t } := by
  obtain ⟨⟨⟨power, link, memory, busy, request⟩, tied, hold, serves⟩, outside, covered⟩ := h
  refine ⟨⟨⟨power, link, memory, busy, request⟩, tied, hold, serves⟩, outside, fun hsh hsv hoff hbroken => ?_⟩
  have before := covered hsh hsv hoff hbroken
  simp only [hg, Bool.false_and, Bool.or_false] at before ⊢
  exact before

/-! ## The treatments of an access -/

/-- R136, R151, R138: a forward may wait where its write lies outside the area, and saved if it is journaled. -/
theorem requestForward_hostLaw (w : Option (Fin 8)) (a : HostAccess) (hframe : Framed r s)
    (hb : ∀ b ∈ s.port.busy, b.who ≠ .forward) (harea : shield → SameArea s)
    (hout : shield → s.engine.mode ≠ .off → s.engine.mode.headPhase = false ∧
      (a.dir = .write → inArea s.engine.base s.engine.slots (2 * a.addr.toNat) = false))
    (hsaved : shield → saved → s.engine.mode ≠ .off → s.engine.mode ≠ .broken → a.dir = .write →
      journaled s a.addr = true → grantsJournaled s.engine.mode = true ∧
        TouchMap.level s.touch (granuleOf a.addr).toNat = s.engine.stack.length) :
    HostLaw shield saved r (requestForward w a s) := by
  obtain ⟨power, link, memory, busy, request⟩ := hframe
  have waits (x : HalfAddr) (hx : waitingWrite (requestForward w a s) = some x) : a.dir = .write ∧ a.addr = x := by
    by_cases hd : a.dir = .write <;> simp [waitingWrite, forwardAccess, hd] at hx
    exact ⟨hd, hx⟩
  refine ⟨⟨⟨power, link, memory, busy, request⟩, ⟨?_, ?_, fun b hm hw => absurd hw (hb b hm)⟩,
    fun hsh => ⟨harea hsh, ?_⟩, fun _ _ => ?_⟩, fun hsh hoff => ⟨?_, fun hh => ?_⟩, fun hsh hsv hoff hbroken => ?_⟩
  · simp [hostForward, forwardAccess]
  · simp
  · simp [HoldLaw, holdFits]
  · intro x hx _ _ hst
    cases hx
    cases hst
  · rw [Option.all_eq_true]
    intro x hx
    obtain ⟨hd, rfl⟩ := waits x hx
    simp [(hout hsh hoff).2 hd]
  · have hh : s.engine.mode.headPhase = true := hh
    simp [(hout hsh hoff).1] at hh
  · simp only [Option.all_eq_true, Bool.or_eq_true, Bool.and_eq_true, beq_iff_eq, Bool.not_eq_true']
    intro x hx
    obtain ⟨hd, rfl⟩ := waits x hx
    cases hj : journaled s a.addr with
    | false => exact .inl hj
    | true => exact .inr (hsaved hsh hsv hoff hbroken hd hj)

/-- R127, R151: what is forwarded or looked up has passed the head phase and the area guard. -/
theorem classify_passes {s : State} {a : HalfAddr} {d : Direction} (harea : SameArea s)
    (hoff : s.engine.mode ≠ .off) (hc : (∃ w, classify s a d = .forward w) ∨ classify s a d = .lookup) :
    s.engine.mode.headPhase = false ∧
      (d = .write → inArea s.engine.base s.engine.slots (2 * a.toNat) = false) := by
  obtain ⟨hbase, hslots⟩ := harea
  unfold classify at hc
  simp only [hbase, hslots] at hc
  split at hc
  · simp at hc
  · rename_i hh
    refine ⟨by simpa using hh, fun hd => ?_⟩
    split at hc
    · simp [hd, areaTreatment] at hc
    · rename_i hin
      simpa [hoff] using hin

/-- R129: outside OFF and BROKEN no journaled write is forwarded but by its lookup. -/
theorem classify_journaled_ne_forward {s : State} {a : HalfAddr} (harea : SameArea s) (hoff : s.engine.mode ≠ .off)
    (hbroken : s.engine.mode ≠ .broken) (hj : journaled s a = true) (w : Option (Fin 8)) :
    classify s a .write ≠ .forward w := by
  intro hc
  obtain ⟨hbase, hslots⟩ := id harea
  have hh := (classify_passes harea hoff (.inl ⟨w, hc⟩)).1
  rw [classify_of_journaled .write hj hbase hslots hh] at hc
  cases hm : s.engine.mode <;> simp_all [Mode.name, journaledTreatment]

/-- R131: an access held for the engine waits for nothing else. -/
theorem holdAccess_hostLaw (a : HostAccess) (hframe : Framed r s) (hf : s.port.forward = none)
    (hb : ∀ b ∈ s.port.busy, b.who ≠ .forward) (harea : shield → SameArea s) :
    HostLaw shield saved r (holdAccess .engine a s) := by
  obtain ⟨power, link, memory, busy, request⟩ := hframe
  refine .of_no_forward ⟨⟨power, link, memory, busy, request⟩, ⟨?_, ?_, fun b hm hw => absurd hw (hb b hm)⟩,
    fun hsh => ⟨harea hsh, ?_⟩, fun _ _ => ?_⟩ hf
  · simp [hostForward, hf]
  · simp
  · simp [HoldLaw, holdFits]
  · intro x hx _ _ hst
    cases hx
    cases hst

/-- R47, R53: the write of a lookup held while `m`, its save or its break, is under way. -/
theorem heldFor_hostLaw (a : HostAccess) (why : HoldFor) (m : Mode) (hframe : Framed r s) (hf : s.port.forward = none)
    (hb : ∀ b ∈ s.port.busy, b.who ≠ .forward) (harea : shield → SameArea s)
    (hout : shield → inArea s.engine.base s.engine.slots (2 * a.addr.toNat) = false)
    (hfit : ∀ x : HostAccess, x.stage = .held why → holdFits m x = true)
    (hgran : ∀ w, m = .saving w → granuleOf a.addr = w.granule) :
    HostLaw shield saved r (setMode m (holdAccess why a s)) := by
  obtain ⟨power, link, memory, busy, request⟩ := hframe
  refine .of_no_forward ⟨⟨power, link, memory, busy, request⟩, ⟨?_, ?_, fun b hm hw => absurd hw (hb b hm)⟩,
    fun hsh => ⟨harea hsh, ?_⟩, fun _ _ => ?_⟩ hf
  · simp [hostForward, hf]
  · simp
  · intro x hx
    cases hx
    exact ⟨hfit _ rfl, fun _ => hout hsh⟩
  · intro x hx w hw _
    cases hx
    exact hgran w hw

/-- R125: an access answered leaves nothing behind at the port. -/
theorem answered_hostLaw {t : State} (hframe : Framed r t) (ha : t.host.access = none) (hp : t.port = s.port)
    (he : t.engine = s.engine) (hr : t.regions = s.regions) (hf : s.port.forward = none)
    (hb : ∀ b ∈ s.port.busy, b.who ≠ .forward) (harea : shield → SameArea s) : HostLaw shield saved r t :=
  hostLaw_of_no_access hframe ha (hp ▸ hf) (hp ▸ hb) fun hsh => by
    rw [SameArea, he, hr]
    exact harea hsh

/-- R24, R47, R52, R53: a lookup sends the write forward saved, holds it for its save or its break, or refuses it. -/
theorem lookupWrite_hostLaw (a : HostAccess) (hframe : Framed r s) (hf : s.port.forward = none)
    (hb : ∀ b ∈ s.port.busy, b.who ≠ .forward) (harea : shield → SameArea s) (hm : s.engine.mode = .active)
    (hout : shield → inArea s.engine.base s.engine.slots (2 * a.addr.toNat) = false) :
    HostLaw shield saved r (lookupWrite a s) := by
  obtain ⟨power, link, memory, busy, request⟩ := id hframe
  by_cases hlev : TouchMap.level s.touch (granuleOf a.addr).toNat = s.engine.depth
  · rw [lookupWrite_forward hlev]
    exact requestForward_hostLaw none a hframe hb harea (fun hsh _ => ⟨by rw [hm]; rfl, fun _ => hout hsh⟩)
      fun _ _ _ _ _ _ => ⟨by rw [hm]; rfl, hlev⟩
  by_cases hfill : s.engine.fill < s.engine.slots
  · rw [lookupWrite_save hlev hfill]
    refine heldFor_hostLaw a .save _ hframe hf hb harea hout (fun x hx => by simp [holdFits, hx]) fun w hw => ?_
    cases hw
    rfl
  · rw [lookupWrite_full hlev (Nat.not_lt.1 hfill)]
    split
    · exact answered_hostLaw ⟨power, link, memory, busy, request⟩ rfl rfl rfl rfl hf hb harea
    · exact heldFor_hostLaw a .breakEnd _ hframe hf hb harea hout (fun x hx => by simp [holdFits, hx]) nofun

/-- R129: only writes are looked up. -/
theorem classify_read_ne_lookup (s : State) (a : HalfAddr) : classify s a .read ≠ .lookup := by
  unfold classify
  dsimp only
  split
  · nofun
  split
  · nofun
  split
  · rename_i i _
    cases (s.regions.entries.get i).mode with
    | journal => cases hm : s.engine.mode <;> simp [Mode.name, regionTreatment, journaledTreatment]
    | _ => nofun
  · nofun

/-- R127: an access with no forward at the port, treated as it is classified. -/
theorem treat_hostLaw (a : HostAccess) (hframe : Framed r s) (hf : s.port.forward = none)
    (hb : ∀ b ∈ s.port.busy, b.who ≠ .forward) (harea : shield → SameArea s) :
    HostLaw shield saved r (treat (classify s a.addr a.dir) a s) := by
  cases hc : classify s a.addr a.dir with
  | forward w =>
    refine requestForward_hostLaw w a hframe hb harea
      (fun hsh hoff => classify_passes (harea hsh) hoff (.inl ⟨w, hc⟩))
      fun hsh _ hoff hbroken hd hj => ?_
    rw [hd] at hc
    exact absurd hc (classify_journaled_ne_forward (harea hsh) hoff hbroken hj w)
  | hold => exact holdAccess_hostLaw a hframe hf hb harea
  | lookup =>
    have hm : s.engine.mode = .active := Decidable.byContradiction fun hm => classify_ne_lookup s _ _ hm hc
    have hd : a.dir = .write := by
      cases hd : a.dir with
      | read => exact absurd (hd ▸ hc) (classify_read_ne_lookup s a.addr)
      | write => rfl
    exact lookupWrite_hostLaw a hframe hf hb harea hm fun hsh =>
      (classify_passes (harea hsh) (by simp [hm]) (.inr hc)).2 hd
  | refuse i =>
    obtain ⟨power, link, memory, busy, request⟩ := hframe
    obtain ⟨hp, -, hr, hl, hmem, -, -, -, -, -, -, -, -, he, hport⟩ := refuseAccess_frame i a s
    have answered : (refuseAccess i a s).host.access = none := rfl
    exact answered_hostLaw ⟨hp.trans power, hl.trans link, hmem.trans memory, by rw [treat, hport, busy],
      by rw [treat, hport, request]⟩ answered hport he hr hf hb harea

/-! ## Classified afresh -/

/-- An access that is not granted is not the one that the port serves. -/
theorem not_serving_of_stage {p : Port} {host : HostPort} {a : HostAccess} (h : Tied p host)
    (ha : host.access = some a) (hst : a.stage ≠ .granted) : ∀ b ∈ p.busy, b.who ≠ .forward := by
  intro b hb hw
  obtain ⟨-, x, hx, hg, -⟩ := h.served b hb hw
  rw [ha] at hx
  cases hx
  exact hst hg

/-- An access that is not forwarding has no forward at the port. -/
theorem no_forward_of_stage {p : Port} {host : HostPort} {a : HostAccess} (h : Tied p host)
    (ha : host.access = some a) (hst : a.stage ≠ .forwarding) : p.forward = none := by
  rw [h.forward]
  simp only [hostForward, ha, hst, if_false]

/-- R132: the access held by an operation, or the trigger of a break, as the engine's state has become. -/
theorem resolveHeld_hostLaw (h : HostLaw shield saved r s) : HostLaw shield saved r (resolveHeld s) := by
  obtain ⟨⟨frame, tied, hold, -⟩, -⟩ := id h
  unfold resolveHeld
  split
  · exact h
  · rename_i a ha
    split
    next hst =>
      exact treat_hostLaw a frame (no_forward_of_stage tied ha (by simp [hst]))
        (not_serving_of_stage tied ha (by simp [hst])) fun hsh => (hold hsh).1
    next hst =>
      split
      · rename_i hm
        have unheld (hsh : shield) : False := by
          have := ((hold hsh).2 a ha).1
          simp [holdFits, hst, hm] at this
        exact requestForward_hostLaw none a frame (not_serving_of_stage tied ha (by simp [hst]))
          (fun hsh => (hold hsh).1) (fun hsh => (unheld hsh).elim) fun hsh => (unheld hsh).elim
      · exact h
    all_goals exact h

/-- R149: the waiting forward is withdrawn and its access classified afresh, whatever the engine has become. -/
theorem reclassifyWaiting_hostLaw (h : AccessLaw shield saved r s) :
    HostLaw shield saved r (reclassifyWaiting s) := by
  obtain ⟨⟨power, link, memory, busy, request⟩, tied, hold, -⟩ := id h
  cases ha : s.host.access with
  | none =>
    rw [reclassifyWaiting_of_no_access ha]
    exact .of_no_forward h (by rw [tied.forward, hostForward, ha])
  | some a =>
    by_cases hst : a.stage = .forwarding
    · rw [reclassifyWaiting_of_forwarding ha hst]
      exact treat_hostLaw (s := withdrawForward s) a ⟨power, link, memory, busy, request⟩ rfl
        (not_serving_of_stage (p := s.port) tied ha (by simp [hst])) fun hsh => (hold hsh).1
    · rw [reclassifyWaiting_of_not_forwarding ha hst]
      exact .of_no_forward h (no_forward_of_stage tied ha hst)

/-- R149: an operation that begins takes the engine into its state and classifies the waiting forward afresh. -/
theorem begins_hostLaw {m : Mode} (h : AccessLaw shield saved r s) (hs : s.engine.mode.holdsNone = true)
    (hn : ∀ w, m ≠ .saving w) : HostLaw shield saved r (reclassifyWaiting (setMode m s)) :=
  reclassifyWaiting_hostLaw (h.setMode hs hn)

/-! ## The ends and beginnings of operations -/

theorem refusePending_hostLaw (h : HostLaw shield saved r s) : HostLaw shield saved r (refusePending s) := by
  unfold refusePending
  split
  · exact h
  · exact h

/-- R38, R58: fill and stack are emptied or put on the base while no journaled write may be granted. -/
theorem HostLaw.restack (h : HostLaw shield saved r s) (hg : grantsJournaled s.engine.mode = false) (n : Nat)
    (l : List Checkpoint) : HostLaw shield saved r (setStack l (setFill n s)) :=
  h.relevel hg l s.touch

theorem endInOff_hostLaw (h : HostLaw shield saved r s) (hm : s.engine.mode.barred = true) :
    HostLaw shield saved r (endInOff s) := by
  have emptied : HostLaw shield saved r (emptyJournal s) := h.restack (not_grantsJournaled_of_barred hm) 0 []
  exact resolveHeld_hostLaw (refusePending_hostLaw (emptied.setMode (quietMode_of_barred hm rfl)))

/-- R53, R54: the trigger of a break goes forward in BROKEN; another access stays as it is or is classified. -/
theorem endInBroken_hostLaw (h : HostLaw shield saved r s)
    (hm : s.engine.mode.barred = true ∨ ∃ step, s.engine.mode = .breaking step) :
    HostLaw shield saved r (endInBroken s) := by
  obtain ⟨⟨frame, tied, hold, -⟩, -⟩ := id h
  have hg : grantsJournaled s.engine.mode = false ∧ s.engine.mode ≠ .off ∧ s.engine.mode ≠ .broken := by
    rcases hm with hm | ⟨step, hm⟩
    · exact ⟨not_grantsJournaled_of_barred hm, fun h => by simp [h, Mode.barred] at hm,
        fun h => by simp [h, Mode.barred] at hm⟩
    · rw [hm]
      exact ⟨rfl, nofun, nofun⟩
  obtain ⟨grants, armed, unbroken⟩ := hg
  have emptied : HostLaw shield saved r (emptyJournal s) := h.restack grants 0 []
  by_cases htrigger : ∃ a ∈ s.host.access, a.stage = .held .breakEnd
  · obtain ⟨a, ha, hst⟩ := htrigger
    have sent : HostLaw shield saved r (requestForward none a (setMode .broken (emptyJournal s))) :=
      requestForward_hostLaw none a frame (not_serving_of_stage (p := s.port) tied ha (by simp [hst]))
        (fun hsh => (hold hsh).1) (fun hsh _ => ⟨rfl, fun _ => ((hold hsh).2 a ha).2 (.inr hst)⟩)
        fun _ _ _ hbroken => absurd rfl hbroken
    rw [endInBroken, resolveHeld_of_breakEnd (by simpa using ha) hst (by simp)]
    unfold refusePending
    split <;> exact sent
  · have broken : HostLaw shield saved r (setMode .broken (emptyJournal s)) := by
      refine emptied.setMode_of_hold ⟨fun _ => armed, nofun, nofun, fun _ hbroken => absurd rfl hbroken⟩
        fun a ha hfit => holdFits_of_stage (fun hst => ?_) (fun hst => htrigger ⟨a, ha, hst⟩) _
      rcases hm with hm | ⟨step, hm⟩
      · exact (stage_of_holdsNone (holdsNone_of_barred hm) hfit).1 hst
      · simp [holdFits, hst, hm] at hfit
    exact resolveHeld_hostLaw (refusePending_hostLaw (s := raise .broken (setMode .broken (emptyJournal s))) broken)

theorem beginMark_hostLaw (label : Half) (h : AccessLaw shield saved r s) (hm : s.engine.mode.holdsNone = true) :
    HostLaw shield saved r (beginMark label s) :=
  begins_hostLaw h hm nofun

theorem refuseMarkRequest_hostLaw (t : MarkTest) (h : HostLaw shield saved r s) :
    HostLaw shield saved r (refuseMarkRequest t s) := by
  cases t <;> exact h

/-- R69: the engine rests in ACTIVE. -/
theorem restActive_hostLaw (h : HostLaw shield saved r s) (hm : s.engine.mode = .active) :
    HostLaw shield saved r (restActive s) := by
  have hn : s.engine.mode.holdsNone = true := by rw [hm]; rfl
  unfold restActive
  dsimp only
  split
  · split
    · exact resolveHeld_hostLaw (beginMark_hostLaw (s := setMarkPending false s) _ h.1 hn)
    · exact resolveHeld_hostLaw (refuseMarkRequest_hostLaw (s := setMarkPending false s) _ h)
    · exact resolveHeld_hostLaw (refuseMarkRequest_hostLaw (s := setMarkPending false s) _ h)
  · exact resolveHeld_hostLaw h

theorem undoNormal_hostLaw (h : HostLaw shield saved r s) (hm : s.engine.mode.barred = true) :
    HostLaw shield saved r (undoNormal s) :=
  HostLaw.setMode (s := setUndoOutcome .normal s) h (quietMode_of_barred hm rfl)

/-- R74: an undo begins; its waiting forward has still to be classified afresh. -/
theorem enterUndoing_accessLaw (drop : Bool) (h : AccessLaw shield saved r s)
    (hm : s.engine.mode.holdsNone = true) : AccessLaw shield saved r (enterUndoing drop s) :=
  h.setMode (m := (enterUndoing drop s).engine.mode) hm nofun

/-- R120: a resume goes over into its undo; no journaled write may wait in either. -/
theorem enterUndoing_hostLaw (drop : Bool) (h : HostLaw shield saved r s) (hm : s.engine.mode.barred = true) :
    HostLaw shield saved r (enterUndoing drop s) :=
  h.setMode (m := (enterUndoing drop s).engine.mode) (quietMode_of_barred hm rfl)

/-- R36, R69: an operation ends in ACTIVE. -/
theorem enterActive_hostLaw (h : HostLaw shield saved r s) (hq : QuietMode s.engine.mode .active) :
    HostLaw shield saved r (enterActive s) := by
  have active : HostLaw shield saved r (setMode .active s) := h.setMode hq
  cases hu : s.engine.undoPending with
  | false =>
    rw [enterActive_of_no_undo hu]
    exact restActive_hostLaw active rfl
  | true =>
    have undoing : HostLaw shield saved r (pendingUndo s) :=
      reclassifyWaiting_hostLaw (enterUndoing_accessLaw (s := setUndoPending false (setMode .active s)) _ active.1 rfl)
    have mode : (pendingUndo s).engine.mode.barred = true := by
      rw [pendingUndo, reclassifyWaiting_engine _ (by simp)]
      rfl
    rw [enterActive_of_undo hu]
    split
    · exact restActive_hostLaw (undoNormal_hostLaw undoing mode) rfl
    · exact resolveHeld_hostLaw undoing

/-- R72, R73, R81: an undo begins, and may end at its entry. -/
theorem beginUndo_hostLaw (drop : Bool) (h : AccessLaw shield saved r s) (hm : s.engine.mode.holdsNone = true) :
    HostLaw shield saved r (beginUndo drop s) := by
  have undoing : HostLaw shield saved r (reclassifyWaiting (enterUndoing drop s)) :=
    reclassifyWaiting_hostLaw (enterUndoing_accessLaw drop h hm)
  have mode : (reclassifyWaiting (enterUndoing drop s)).engine.mode.barred = true := by
    rw [reclassifyWaiting_engine _ (by simp)]
    rfl
  unfold beginUndo
  dsimp only
  split
  · exact enterActive_hostLaw (undoNormal_hostLaw undoing mode) quietMode_active
  · exact undoing

theorem undoAborted_hostLaw (h : HostLaw shield saved r s) (hm : s.engine.mode.barred = true) :
    HostLaw shield saved r (undoAborted s) :=
  resolveHeld_hostLaw (HostLaw.setMode (s := raise .undoEnd (setUndoOutcome .aborted s)) h
    (quietMode_of_barred hm rfl))

theorem undoBad_hostLaw (u : UndoWork) (h : HostLaw shield saved r s) (hm : s.engine.mode.barred = true) :
    HostLaw shield saved r (undoBad u s) := by
  have faulted : HostLaw shield saved r (raise .undoFault (setUndoOutcome .fault s)) := h
  unfold undoBad
  dsimp only
  split
  · exact resolveHeld_hostLaw (faulted.setMode (quietMode_of_barred hm rfl))
  · exact resolveHeld_hostLaw (refusePending_hostLaw (faulted.setMode (quietMode_of_barred hm rfl)))

theorem beginArm_hostLaw (h : AccessLaw shield saved r s) (hm : s.engine.mode.holdsNone = true) :
    HostLaw shield saved r (beginArm s) :=
  begins_hostLaw (s := baseAlone s) h hm nofun

theorem beginResume_hostLaw (autoUndo : Bool) (h : AccessLaw shield saved r s)
    (hm : s.engine.mode.holdsNone = true) : HostLaw shield saved r (beginResume autoUndo s) :=
  reclassifyWaiting_hostLaw (h.setMode (m := (enterScanning autoUndo s).engine.mode) hm nofun)

theorem fromBroken_accessLaw (h : AccessLaw shield saved r s) : AccessLaw shield saved r (fromBroken s) := by
  unfold fromBroken
  split <;> exact h

theorem fromBroken_mode (s : State) : (fromBroken s).engine.mode = s.engine.mode := by
  rw [fromBroken_eq]

theorem beginCommit_hostLaw (h : AccessLaw shield saved r s) (hm : s.engine.mode.holdsNone = true) :
    HostLaw shield saved r (beginCommit s) :=
  begins_hostLaw (fromBroken_accessLaw h) (by rwa [fromBroken_mode]) nofun

theorem beginDisarm_hostLaw (h : AccessLaw shield saved r s) (hm : s.engine.mode.holdsNone = true) :
    HostLaw shield saved r (beginDisarm s) :=
  begins_hostLaw (fromBroken_accessLaw h) (by rwa [fromBroken_mode]) nofun

theorem beginRelease_hostLaw (h : AccessLaw shield saved r s) (hm : s.engine.mode.holdsNone = true) :
    HostLaw shield saved r (beginRelease s) :=
  begins_hostLaw h hm nofun

theorem beginRecording_hostLaw (h : AccessLaw shield saved r s) (hm : s.engine.mode.holdsNone = true) :
    HostLaw shield saved r (beginRecording s) :=
  begins_hostLaw h hm nofun

/-! ## The completion of an engine access -/

theorem buildEnd_hostLaw (epoch : Half) (w : HeadWrite) (h : HostLaw shield saved r s)
    (hm : s.engine.mode.barred = true) : HostLaw shield saved r (buildEnd epoch w s) :=
  enterActive_hostLaw (h.restack (not_grantsJournaled_of_barred hm) 0 [baseCheckpoint]) (quietMode_of_barred hm rfl)

/-- R49: the access that a save served has ended. -/
theorem savingServed_hostLaw (h : HostLaw shield saved r s) : HostLaw shield saved r (savingServed s) := by
  unfold savingServed
  split
  · rename_i w hm
    split
    · exact enterActive_hostLaw h (by rw [hm]; exact quietMode_stored ‹_›)
    · exact h
  · exact h

theorem advanceArming_hostLaw (v : Half) {step : ArmStep} (h : HostLaw shield saved r s)
    (hm : s.engine.mode = .arming step) : HostLaw shield saved r (advanceArming v step s) := by
  have barred : s.engine.mode.barred = true := by rw [hm]; rfl
  rcases step with got | ⟨epoch, _ | k | w⟩
  · simp only [advanceArming]
    split
    · exact h.setMode (quietMode_of_barred barred rfl)
    · exact HostLaw.setMode (s := takeHeadChoice _ _ s) h (quietMode_of_barred barred rfl)
  · exact h
  · exact h.setMode (quietMode_of_barred barred rfl)
  · simp only [advanceArming]
    split
    · exact buildEnd_hostLaw epoch w h barred
    · exact h.setMode (quietMode_of_barred barred rfl)

theorem advanceCommitting_hostLaw {epoch : Half} {step : BuildStep} (h : HostLaw shield saved r s)
    (hm : s.engine.mode = .committing epoch step) : HostLaw shield saved r (advanceCommitting epoch step s) := by
  have barred : s.engine.mode.barred = true := by rw [hm]; rfl
  rcases step with _ | k | w
  · exact h
  · exact h.setMode (quietMode_of_barred barred rfl)
  · simp only [advanceCommitting]
    split
    · exact buildEnd_hostLaw epoch w h barred
    · exact h.setMode (quietMode_of_barred barred rfl)

theorem advanceDisarming_hostLaw {step : CloseStep} (h : HostLaw shield saved r s)
    (hm : s.engine.mode = .disarming step) : HostLaw shield saved r (advanceDisarming step s) := by
  have barred : s.engine.mode.barred = true := by rw [hm]; rfl
  rcases step with _ | w
  · exact h
  · simp only [advanceDisarming]
    split
    · exact endInOff_hostLaw (s := raise .baseEnd (headWritten w s)) h barred
    · exact h.setMode (quietMode_of_barred barred rfl)

theorem advanceRecording_hostLaw {w : HeadWrite} (h : HostLaw shield saved r s)
    (hm : s.engine.mode = .recording w) : HostLaw shield saved r (advanceRecording w s) := by
  have barred : s.engine.mode.barred = true := by rw [hm]; rfl
  unfold advanceRecording
  split
  · exact enterActive_hostLaw (s := headWritten w s) h (quietMode_of_barred barred rfl)
  · exact h.setMode (quietMode_of_barred barred rfl)

theorem advanceBreaking_hostLaw {step : CloseStep} (h : HostLaw shield saved r s)
    (hm : s.engine.mode = .breaking step) : HostLaw shield saved r (advanceBreaking step s) := by
  have quiet (y : CloseStep) : QuietMode s.engine.mode (.breaking y) := by
    rw [hm]
    exact quietMode_breaking step y
  rcases step with _ | w
  · exact h
  · simp only [advanceBreaking]
    split
    · exact HostLaw.setMode (s := headWritten w s) h (quiet _)
    · exact h.setMode (quiet _)

/-- A level other than 0 is found where it was set, in a map of any form. -/
theorem TouchMap.level_set_self (t : TouchMap) (g : Nat) {level : Nat} (h : level ≠ 0) :
    TouchMap.level (TouchMap.set t g level) g = level := by
  unfold TouchMap.level TouchMap.set
  induction t with
  | nil => simp [sparseWrite, sparseRead, h]
  | cons c t ih =>
    obtain ⟨k, l⟩ := c
    unfold sparseWrite
    simp only [h, if_false]
    split
    · simp [sparseRead]
    · split
      · simp [sparseRead]
      · rename_i hne
        simp only [sparseRead, hne, if_false]
        exact ih

/-- R26, R48, R49: the kind write of a save: its granule is saved, and the write that waited for it goes forward. -/
theorem advanceSaving_hostLaw (v : Half) {w : SaveWork} (h : HostLaw shield saved r s)
    (hm : s.engine.mode = .saving w) (hstack : saved → s.engine.stack ≠ []) :
    HostLaw shield saved r (advanceSaving v w s) := by
  by_cases hk : w.done = 38
  · obtain ⟨⟨frame, tied, hold, serves⟩, -⟩ := id h
    have hg : grantsJournaled s.engine.mode = false := by
      rw [hm]
      simp [grantsJournaled, saveStored, hk]
    rw [advanceSaving_kind v hk]
    by_cases hheld : ∃ a ∈ s.host.access, a.stage = .held .save
    · obtain ⟨a, ha, hst⟩ := hheld
      rw [saveWritten_held (by exact ha) hst]
      refine requestForward_hostLaw none a frame (not_serving_of_stage (p := s.port) tied ha (by simp [hst]))
        (fun hsh => (hold hsh).1) (fun hsh _ => ⟨rfl, fun _ => ((hold hsh).2 a ha).2 (.inl hst)⟩)
        fun hsh hsv _ _ _ _ => ⟨by simp [grantsJournaled, saveStored], ?_⟩
      have granule : granuleOf a.addr = w.granule := serves hsh hsv a ha w hm hst
      rw [granule]
      exact TouchMap.level_set_self _ _ fun hz => hstack hsv (List.length_eq_zero_iff.1 hz)
    · have unheld : ∀ a ∈ s.host.access, a.stage ≠ .held .save := fun a ha hst => hheld ⟨a, ha, hst⟩
      rw [saveWritten_unheld (by exact unheld)]
      have levelled := h.relevel hg s.engine.stack (TouchMap.set s.touch w.granule.toNat s.engine.depth)
      have stored : HostLaw shield saved r (Machine.setMode (.saving { w with done := 39, data := w.data })
          (setLevel w.granule.toNat s.engine.depth (setFill (s.engine.fill + 1) s))) := by
        refine HostLaw.setMode_of_hold (s := setLevel w.granule.toNat s.engine.depth (setFill (s.engine.fill + 1) s))
          levelled ⟨fun _ => by simp [hm], nofun, fun x hx => ?_, fun _ _ => ⟨by simp [hm], fun _ => ?_⟩⟩ ?_
        · cases hx
          exact ⟨w, hm, rfl⟩
        · simp [grantsJournaled, saveStored]
        · intro a ha hf
          have hf : holdFits s.engine.mode a = true := hf
          refine holdFits_of_stage (unheld a ha) (fun hst => ?_) _
          simp [holdFits, hst, hm] at hf
      exact enterActive_hostLaw stored (quietMode_stored (by simp))
  · simp only [advanceSaving, hk, if_false]
    exact h.setMode (by rw [hm]; exact quietMode_saving hk _)

theorem advanceMarking_hostLaw {label : Half} {n : Nat} (h : HostLaw shield saved r s)
    (hm : s.engine.mode = .marking label n) : HostLaw shield saved r (advanceMarking label n s) := by
  have barred : s.engine.mode.barred = true := by rw [hm]; rfl
  unfold advanceMarking
  split
  · have pushed : HostLaw shield saved r (pushStack (s.engine.fill + 1) label (setFill (s.engine.fill + 1) s)) :=
      h.restack (not_grantsJournaled_of_barred barred) _ _
    exact enterActive_hostLaw (s := raise .checkpointEnd _) pushed (quietMode_of_barred barred rfl)
  · exact h.setMode (quietMode_of_barred barred rfl)

theorem advanceReleasing_hostLaw {step : ReleaseStep} (h : HostLaw shield saved r s)
    (hm : s.engine.mode = .releasing step) : HostLaw shield saved r (advanceReleasing step s) := by
  have barred : s.engine.mode.barred = true := by rw [hm]; rfl
  cases step with
  | sweep => exact h
  | writeKind =>
    have popped : HostLaw shield saved r (popStack s) :=
      h.relevel (not_grantsJournaled_of_barred barred) _ s.touch
    exact enterActive_hostLaw (s := raise .checkpointEnd _) popped (quietMode_of_barred barred rfl)

/-! ### Undo -/

theorem setUndoStep_hostLaw (u : UndoWork) (step : UndoStep) (h : HostLaw shield saved r s)
    (hm : s.engine.mode.barred = true) : HostLaw shield saved r (setUndoStep u step s) :=
  h.setMode (quietMode_of_barred hm rfl)

theorem judgeWalk_hostLaw (u : UndoWork) (x : SlotHeader) (h : HostLaw shield saved r s)
    (hm : s.engine.mode.barred = true) : HostLaw shield saved r (judgeWalk u x s) := by
  unfold judgeWalk
  split
  · split
    · exact setUndoStep_hostLaw u _ h hm
    · split
      · exact setUndoStep_hostLaw u _ h hm
      · exact undoBad_hostLaw u h hm
  · exact undoBad_hostLaw u h hm

theorem judgeMarker_hostLaw (u : UndoWork) (x : SlotHeader) (h : HostLaw shield saved r s)
    (hm : s.engine.mode.barred = true) : HostLaw shield saved r (judgeMarker u x s) := by
  unfold judgeMarker
  split
  · exact setUndoStep_hostLaw u _ h hm
  · exact undoBad_hostLaw u h hm

theorem afterRemoval_hostLaw (u : UndoWork) (h : HostLaw shield saved r s) (hm : s.engine.mode.barred = true) :
    HostLaw shield saved r (afterRemoval u s) := by
  unfold afterRemoval
  split
  · exact undoAborted_hostLaw h hm
  · split
    · split
      · exact setUndoStep_hostLaw u _ h hm
      · exact enterActive_hostLaw (undoNormal_hostLaw h hm) quietMode_active
    · exact setUndoStep_hostLaw u _ h hm

theorem voidDone_hostLaw (u : UndoWork) (x : SlotHeader) (h : HostLaw shield saved r s)
    (hm : s.engine.mode.barred = true) : HostLaw shield saved r (voidDone u x s) := by
  have hg := not_grantsJournaled_of_barred hm
  have removedMarker : HostLaw shield saved r (removeMarker s) := h.restack hg _ _
  unfold voidDone
  split
  · refine afterRemoval_hostLaw u ?_ ?_
    · split
      · exact h.relevel hg s.engine.stack (TouchMap.set s.touch x.subject.toNat (levelByte x))
      · exact h
    · split <;> exact hm
  · split
    · exact undoAborted_hostLaw removedMarker hm
    · exact enterActive_hostLaw (undoNormal_hostLaw removedMarker hm) quietMode_active

theorem advanceUndoing_hostLaw (v : Half) {u : UndoWork} (h : HostLaw shield saved r s)
    (hm : s.engine.mode = .undoing u) : HostLaw shield saved r (advanceUndoing v u s) := by
  have barred : s.engine.mode.barred = true := by rw [hm]; rfl
  unfold advanceUndoing
  split
  · dsimp only
    split
    · exact setUndoStep_hostLaw u _ h barred
    · split
      · exact judgeWalk_hostLaw u _ h barred
      · exact judgeMarker_hostLaw u _ h barred
  · dsimp only
    split
    · exact setUndoStep_hostLaw u _ h barred
    · split
      · exact setUndoStep_hostLaw u _ h barred
      · exact undoBad_hostLaw u h barred
  · split
    · exact setUndoStep_hostLaw u _ h barred
    · exact setUndoStep_hostLaw u _ h barred
  · exact voidDone_hostLaw u _ h barred

/-! ### Resume -/

theorem resumeOff_hostLaw (o : ResumeOutcome) (h : HostLaw shield saved r s) (hm : s.engine.mode.barred = true) :
    HostLaw shield saved r (resumeOff o s) :=
  endInOff_hostLaw (s := raise .resumeEnd (setResume o .none s)) h hm

/-- R112: in the head phase no forward waits, so that the area and the regions move freely. -/
theorem restoreHead_hostLaw (ws : List Half) (h : HostLaw shield saved r s) (hm : s.engine.mode.headPhase = true) :
    HostLaw shield saved r (restoreHead ws s) := by
  obtain ⟨⟨frame, tied, hold, serves⟩, outside, -⟩ := h
  have barred := barred_of_headPhase hm
  have armed : s.engine.mode ≠ .off := fun hoff => by simp [hoff, Mode.barred] at barred
  have none_waits (hsh : shield) : waitingWrite (restoreHead ws s) = none := by
    have hf : (restoreHead ws s).port.forward = none := (outside hsh armed).2 hm
    simp only [waitingWrite, hf]
  refine ⟨⟨frame, tied, fun hsh => ⟨⟨rfl, rfl⟩, fun a ha => ?_⟩, serves⟩,
    fun hsh _ => ⟨by simp [none_waits hsh], fun _ => (outside hsh armed).2 hm⟩,
    fun hsh _ _ _ => by simp [none_waits hsh]⟩
  obtain ⟨hfit, -⟩ := (hold hsh).2 a ha
  obtain ⟨hsave, hbreak⟩ := stage_of_holdsNone (holdsNone_of_barred barred) hfit
  exact ⟨hfit, fun hst => (hst.elim hsave hbreak).elim⟩

theorem takeHead_hostLaw (autoUndo : Bool) (level : Nat) (ws : List Half) (h : HostLaw shield saved r s)
    (hm : s.engine.mode.headPhase = true) : HostLaw shield saved r (takeHead autoUndo level ws s) := by
  have barred := barred_of_headPhase hm
  have restored := restoreHead_hostLaw ws h hm
  unfold takeHead
  split
  · exact resumeOff_hostLaw _ h barred
  · exact resumeOff_hostLaw _ restored barred
  · exact endInBroken_hostLaw (s := raise .resumeEnd (setResume .broken .none (restoreHead ws s))) restored
      (.inl barred)
  · exact resolveHeld_hostLaw (restored.setMode (quietMode_of_barred barred rfl))

theorem headPhaseEnd_hostLaw (autoUndo : Bool) (level : Nat) (got : List Half) (h : HostLaw shield saved r s)
    (hm : s.engine.mode.headPhase = true) : HostLaw shield saved r (headPhaseEnd autoUndo level got s) := by
  have chosen : HostLaw shield saved r (takeHeadChoice (got.take 32) (got.drop 32) s) := h
  unfold headPhaseEnd
  dsimp only
  split
  · exact resumeOff_hostLaw _ chosen (barred_of_headPhase hm)
  · exact takeHead_hostLaw _ _ _ chosen hm
  · exact takeHead_hostLaw _ _ _ chosen hm

theorem resumeEnd_hostLaw (autoUndo : Bool) (reason : StopReason) (h : HostLaw shield saved r s)
    (hm : s.engine.mode.barred = true) : HostLaw shield saved r (resumeEnd autoUndo reason s) := by
  cases autoUndo with
  | false =>
    rw [resumeEnd_plain]
    exact enterActive_hostLaw (s := resumed reason s) h (quietMode_of_barred hm rfl)
  | true =>
    have merged : HostLaw shield saved r (resumedMerged reason s) := by
      unfold resumedMerged
      split <;> exact h
    have undoing := enterUndoing_hostLaw false merged (by rwa [(resumedMerged_frame reason s).1])
    rw [resumeEnd_auto]
    split
    · exact enterActive_hostLaw (undoNormal_hostLaw undoing rfl) quietMode_active
    · exact resolveHeld_hostLaw undoing

theorem scanStop_hostLaw (autoUndo : Bool) (level : Nat) (reason : StopReason) (h : HostLaw shield saved r s)
    (hm : s.engine.mode.barred = true) : HostLaw shield saved r (scanStop autoUndo level reason s) := by
  unfold scanStop
  split
  · exact h.setMode (quietMode_of_barred hm rfl)
  · exact resumeEnd_hostLaw autoUndo reason h hm

theorem scanNext_hostLaw (autoUndo : Bool) (level : Nat) (h : HostLaw shield saved r s)
    (hm : s.engine.mode.barred = true) : HostLaw shield saved r (scanNext autoUndo level s) := by
  unfold scanNext
  split
  · exact h.setMode (quietMode_of_barred hm rfl)
  · exact scanStop_hostLaw autoUndo level .atEnd h hm

theorem scanKind_hostLaw (autoUndo : Bool) (level : Nat) (v : Half) (h : HostLaw shield saved r s)
    (hm : s.engine.mode.barred = true) : HostLaw shield saved r (scanKind autoUndo level v s) := by
  unfold scanKind
  split
  · exact scanStop_hostLaw _ _ _ h hm
  · split
    · exact h.setMode (quietMode_of_barred hm rfl)
    · exact scanStop_hostLaw _ _ _ h hm

theorem scanHeader_hostLaw (autoUndo : Bool) (level : Nat) (x : SlotHeader) (h : HostLaw shield saved r s)
    (hm : s.engine.mode.barred = true) : HostLaw shield saved r (scanHeader autoUndo level x s) := by
  have hg := not_grantsJournaled_of_barred hm
  unfold scanHeader
  split
  · exact scanStop_hostLaw _ _ _ h hm
  split
  · exact scanStop_hostLaw _ _ _ h hm
  split
  · exact h.setMode (quietMode_of_barred hm rfl)
  split
  · exact scanStop_hostLaw _ _ _ h hm
  split
  · unfold scanMarker
    split
    · exact scanNext_hostLaw (s := pushStack _ _ (setFill _ s)) _ _ (h.restack hg _ _) hm
    · exact scanStop_hostLaw _ _ _ h hm
  · unfold scanReleased
    split
    · exact scanNext_hostLaw (s := setFill _ s) _ _ h hm
    · exact scanStop_hostLaw _ _ _ h hm

theorem scanData_hostLaw (autoUndo : Bool) (level : Nat) (x : SlotHeader) (data : List Half)
    (h : HostLaw shield saved r s) (hm : s.engine.mode.barred = true) :
    HostLaw shield saved r (scanData autoUndo level x data s) := by
  unfold scanData
  split
  · have hg := not_grantsJournaled_of_barred hm
    refine scanNext_hostLaw _ _ ?_ ?_
    · unfold acceptSave
      split
      · exact h.relevel hg s.engine.stack (TouchMap.set s.touch x.subject.toNat level)
      · exact h
    · rw [acceptSave_eq]
      exact hm
  · exact scanStop_hostLaw _ _ _ h hm

theorem advanceScanning_hostLaw (v : Half) {autoUndo : Bool} {level : Nat} {step : ScanStep}
    (h : HostLaw shield saved r s) (hm : s.engine.mode = .scanning autoUndo level step) :
    HostLaw shield saved r (advanceScanning v autoUndo level step s) := by
  have barred : s.engine.mode.barred = true := by rw [hm]; rfl
  unfold advanceScanning
  split
  · have head : s.engine.mode.headPhase = true := by rw [hm]; rfl
    dsimp only
    split
    · exact h.setMode (quietMode_of_ne_saving barred nofun fun _ => head)
    · exact headPhaseEnd_hostLaw _ _ _ h head
  · exact scanKind_hostLaw _ _ _ h barred
  · dsimp only
    split
    · exact h.setMode (quietMode_of_barred barred rfl)
    · exact scanHeader_hostLaw _ _ _ h barred
  · dsimp only
    split
    · exact h.setMode (quietMode_of_barred barred rfl)
    · exact scanData_hostLaw _ _ _ _ h barred
  · split
    · exact h.setMode (quietMode_of_barred barred rfl)
    · exact resumeEnd_hostLaw _ _ h barred

/-- R139: the completion of an engine access keeps the law, whatever operation runs. -/
theorem advance_hostLaw (v : Half) (h : HostLaw shield saved r s)
    (hstack : saved → s.engine.mode ≠ .off → s.engine.mode ≠ .broken → s.engine.stack ≠ []) :
    HostLaw shield saved r (advance v s) := by
  unfold advance
  split
  · exact h
  · exact advanceArming_hostLaw v h ‹_›
  · exact h
  next hm => exact advanceSaving_hostLaw v h hm fun hsv => hstack hsv (by simp [hm]) (by simp [hm])
  · exact advanceMarking_hostLaw h ‹_›
  · exact advanceReleasing_hostLaw h ‹_›
  · exact advanceUndoing_hostLaw v h ‹_›
  · exact advanceCommitting_hostLaw h ‹_›
  · exact advanceDisarming_hostLaw h ‹_›
  · exact advanceRecording_hostLaw h ‹_›
  · exact advanceBreaking_hostLaw h ‹_›
  · exact h
  · exact h
  · exact advanceScanning_hostLaw v h ‹_›

/-! ## The sweeps -/

/-- R31: where a clear sweep completes, no journaled write may be granted. -/
theorem clearSweep_hostLaw {t : State} (h : HostLaw shield saved r s) (hc : clearSweep s = some t) :
    HostLaw shield saved r t := by
  have cleared (hg : grantsJournaled s.engine.mode = false) : HostLaw shield saved r (clearMap s) :=
    h.relevel hg s.engine.stack []
  have goesOn {m : Mode} (hm : s.engine.mode.barred = true) (hn : m.common = true) :
      HostLaw shield saved r (setMode m (clearMap s)) :=
    (cleared (not_grantsJournaled_of_barred hm)).setMode (quietMode_of_barred hm hn)
  cases hm : s.engine.mode with
  | arming step =>
    rcases step with got | ⟨epoch, _ | k | w⟩ <;> simp only [clearSweep, hm, reduceCtorEq] at hc
    cases hc
    exact goesOn (by rw [hm]; rfl) rfl
  | committing epoch step =>
    rcases step with _ | k | w <;> simp only [clearSweep, hm, reduceCtorEq] at hc
    cases hc
    exact goesOn (by rw [hm]; rfl) rfl
  | disarming step =>
    rcases step with _ | w <;> simp only [clearSweep, hm, reduceCtorEq] at hc
    cases hc
    exact goesOn (by rw [hm]; rfl) rfl
  | breaking step =>
    rcases step with _ | w <;> simp only [clearSweep, hm, reduceCtorEq] at hc
    cases hc
    exact endInBroken_hostLaw (cleared (by rw [hm]; rfl)) (.inr ⟨_, hm⟩)
  | _ => simp only [clearSweep, hm, reduceCtorEq] at hc

theorem relabelSweep_hostLaw {t : State} (h : HostLaw shield saved r s) (hc : relabelSweep s = some t) :
    HostLaw shield saved r t := by
  unfold relabelSweep at hc
  split at hc
  next hm =>
    have barred : s.engine.mode.barred = true := by rw [hm]; rfl
    cases hc
    exact (h.relevel (not_grantsJournaled_of_barred barred) s.engine.stack _).setMode (quietMode_of_barred barred rfl)
  · cases hc

end Law

end Sys2Proof.Machine
end

section
/-! SUPPORT. The memory port between two events (R135, R139, R140, R169, R185): its laws taken apart, and the grant
that closes an event. -/

namespace Sys2Proof.Machine

open Sys2Proof.Safety

/-! ## The laws of the port -/

/-- R139, R169, R185, R186: the link reader's request is the one that its series makes next, a series runs in an open
frame that waits for it, and nSS is low while a frame is open or ignored. -/
structure LinkLaw (s : State) : Prop where
  reads : ∀ b ∈ s.port.busy, b.who = .link →
    b.discard = true ∨ (s.port.link = none ∧ linkWanted s.link = some b.access)
  asks : s.port.link = if servesReader s.port then none else linkWanted s.link
  series : s.link.reader.isSome = true → ∃ f ∈ s.link.frame, f.response = none
  selected : s.link.selected = (s.link.ignoring || s.link.frame.isSome)
  ignoring : s.link.ignoring = true → s.link.frame = none

/-- R139: an access of the engine in progress is the one that its operation makes next. -/
def EngineServed (s : State) : Prop :=
  ∀ b ∈ s.port.busy, b.who = .engine → b.discard = false ∧ s.engine.wanted = some b.access

/-- R139: the engine's request is its operation's next access, unless that one is in progress. -/
def EngineAsked (s : State) : Prop :=
  s.port.engine = if s.port.servesEngine then none else s.engine.wanted

/-- R140: an idle port has no request waiting. -/
def NoneLeft (s : State) : Prop :=
  s.port.busy = none → s.port.forward = none ∧ s.port.engine = none ∧ s.port.link = none

/-- The laws of a running part inside an event, when its blocks have changed and the port has yet to grant. -/
structure Open (shield saved : Prop) (s : State) : Prop where
  running : s.power = .running
  link : LinkLaw s
  engine : EngineServed s
  host : HostLaw shield saved s s

/-- The laws of a running part between two events. -/
structure Closed (shield saved : Prop) (s : State) : Prop extends Open shield saved s where
  asked : EngineAsked s
  left : NoneLeft s

theorem busyFits_iff (s : State) : busyFits s = true ↔ NoneLeft s ∧
    (∀ b ∈ s.port.busy, b.who = .forward →
      b.discard = false ∧ ∃ a ∈ s.host.access, a.stage = .granted ∧ forwardAccess a = b.access) ∧
    EngineServed s ∧
    (∀ b ∈ s.port.busy, b.who = .link →
      b.discard = true ∨ (s.port.link = none ∧ linkWanted s.link = some b.access)) := by
  unfold busyFits NoneLeft EngineServed
  cases hb : s.port.busy with
  | none => simp [and_assoc]
  | some b =>
    cases hw : b.who with
    | forward => cases ha : s.host.access <;> simp [hw]
    | engine => simp [hw]
    | link => simp [hw]

/-- The law of the port is that of a running part between two events. -/
theorem portLaw_iff {s : State} (hp : s.power = .running) : PortLaw s ↔ Closed False False s := by
  constructor
  · intro h
    obtain ⟨hbusy, hforward, hengine, hlink, hgranted, hseries, hselected, hignoring⟩ := h hp
    obtain ⟨left, served, engine, reads⟩ := (busyFits_iff s).1 hbusy
    exact ⟨⟨hp, ⟨reads, hlink, hseries, hselected, hignoring⟩, engine,
      ⟨⟨rfl, rfl, rfl, rfl, rfl⟩, ⟨hforward, hgranted, served⟩, nofun, nofun⟩, nofun, nofun⟩, hengine, left⟩
  · rintro ⟨⟨-, ⟨reads, hlink, hseries, hselected, hignoring⟩, engine, ⟨-, tied, -⟩, -⟩, hengine, left⟩ -
    exact ⟨(busyFits_iff s).2 ⟨left, tied.served, engine, reads⟩, tied.forward, hengine, hlink, tied.granted,
      hseries, hselected, hignoring⟩

/-! ## Inside an event -/

section Inside
variable {shield saved : Prop} {r s : State}

/-- The link's laws rest on the link, the access in progress and the link's request alone. -/
theorem LinkLaw.of_framed (h : LinkLaw r) (f : Framed r s) : LinkLaw s := by
  obtain ⟨-, link, -, busy, request⟩ := f
  have serves : servesReader s.port = servesReader r.port := by simp only [servesReader, busy]
  obtain ⟨reads, asks, series, selected, ignoring⟩ := h
  rw [← link, ← request, ← busy] at reads
  rw [← link, ← request, ← serves] at asks
  rw [← link] at series selected ignoring
  exact ⟨reads, asks, series, selected, ignoring⟩

/-- R139: the engine's access in progress stays its next one while the engine waits for it or moves only where it asks
for none. -/
theorem EngineServed.of_framed (h : EngineServed r) (f : Framed r s)
    (he : r.engine.wanted = none ∨ s.engine.wanted = r.engine.wanted) : EngineServed s := by
  obtain ⟨-, -, -, busy, -⟩ := f
  intro b hb hw
  obtain ⟨hd, hr⟩ := h b (busy ▸ hb) hw
  rcases he with he | he
  · rw [he] at hr
    cases hr
  · exact ⟨hd, he.trans hr⟩

theorem engineServed_of_idle (hb : s.port.busy = none) : EngineServed s := by
  simp [EngineServed, hb]

/-- An event whose blocks have moved by the law leaves the part open for the grant. -/
theorem open_of_moved (hrun : r.power = .running) (hlink : LinkLaw r) (hs : HostLaw shield saved r s)
    (hengine : EngineServed s) : Open shield saved s := by
  obtain ⟨⟨frame, -⟩, -⟩ := id hs
  exact ⟨frame.1.trans hrun, hlink.of_framed frame, hengine, hs.rebase (.refl s)⟩

/-- The engine moves while it waits for its access only where what it asks for stays. -/
theorem Open.moved (h : Open shield saved r) (hs : HostLaw shield saved r s)
    (he : r.engine.wanted = none ∨ s.engine.wanted = r.engine.wanted) : Open shield saved s :=
  open_of_moved h.running h.link hs (h.engine.of_framed hs.framed he)

/-- A change that reaches neither the port nor what the engine asks for needs no grant. -/
theorem Closed.calm (h : Closed shield saved r) (hs : HostLaw shield saved r s) (hp : s.port = r.port)
    (he : s.engine.wanted = r.engine.wanted) : Closed shield saved s where
  toOpen := h.toOpen.moved hs (.inr he)
  asked := by
    rw [EngineAsked, hp, he]
    exact h.asked
  left := by
    rw [NoneLeft, hp]
    exact h.left

/-- R124: whether its cycle has ended is no part of the law of an access. -/
theorem HostLaw.withAbandoned (h : HostLaw shield saved r s) (host : HostPort) (ended : HostAccess → Bool)
    (ha : host.access = s.host.access.map fun a => { a with abandoned := ended a }) :
    HostLaw shield saved r { s with host := host } := by
  obtain ⟨⟨frame, ⟨forward, granted, served⟩, hold, serves⟩, waits⟩ := h
  refine ⟨⟨frame, ⟨?_, ?_, ?_⟩, fun hsh => ⟨(hold hsh).1, ?_⟩, fun hsh hsv => ?_⟩, waits⟩
  · have same : hostForward host = hostForward s.host := by
      rw [hostForward, hostForward, ha]
      cases s.host.access <;> rfl
    exact forward.trans same.symm
  · rw [ha]
    simpa using granted
  · rw [ha]
    simpa [forwardAccess] using served
  · have hold := (hold hsh).2
    unfold HoldLaw at hold ⊢
    rw [ha]
    simpa [holdFits] using hold
  · have serves := serves hsh hsv
    unfold SaveLaw at serves ⊢
    rw [ha]
    simpa using serves

/-- The host port's pins, its cycle and its hold limit are no part of the law. -/
theorem HostLaw.withHost (h : HostLaw shield saved r s) (host : HostPort) (ha : host.access = s.host.access) :
    HostLaw shield saved r { s with host := host } :=
  h.withAbandoned host HostAccess.abandoned (by rw [ha, Option.map_id'])

end Inside

/-! ## The grant -/

section Grant
variable {shield saved : Prop} {s : State}

/-- R140: what a grant finds: a busy port, no request at all, or the first waiting request of the rotation. -/
theorem grant_cases (s : State) : (s.port.busy ≠ none ∧ grant s = s) ∨
    (s.port.busy = none ∧ s.port.forward = none ∧ s.port.engine = none ∧ s.port.link = none ∧ grant s = s) ∨
    ∃ q x, s.port.busy = none ∧ s.port.waiting q = some x ∧ grant s = grantTo q x s := by
  unfold grant
  cases hb : s.port.busy with
  | some b => exact .inl ⟨nofun, rfl⟩
  | none =>
    refine .inr ?_
    cases hn : s.port.next with
    | none =>
      refine .inl ⟨rfl, ?_⟩
      cases hl : s.port.last <;> simp [Port.next, rotation, Port.waiting, hl] at hn <;> simp [hn]
    | some q =>
      have hq : (s.port.waiting q).isSome = true := by
        simpa using List.find?_some hn
      obtain ⟨x, hx⟩ := Option.isSome_iff_exists.1 hq
      exact .inr ⟨q, x, rfl, hx, by simp only [hx]⟩

/-- An idle port serves no forward, so no access is granted. -/
theorem not_granted_of_idle {a : HostAccess} (h : Tied s.port s.host) (hb : s.port.busy = none)
    (ha : a ∈ s.host.access) : a.stage ≠ .granted := by
  intro hst
  obtain ⟨-, b, hm, -⟩ := h.granted a ha hst
  simp [hb] at hm

/-- The access after its forward has been granted waits for nothing. -/
theorem hostLaw_grantTo_forward {x : MemAccess} (h : HostLaw shield saved s s)
    (hx : s.port.forward = some x) : HostLaw shield saved (grantTo .forward x s) (grantTo .forward x s) := by
  obtain ⟨⟨-, tied, hold, serves⟩, -⟩ := h
  obtain ⟨a, ha, hst, hfor⟩ : ∃ a, s.host.access = some a ∧ a.stage = .forwarding ∧ forwardAccess a = x := by
    have hf := tied.forward
    rw [hx, hostForward] at hf
    split at hf
    · cases hf
    · rename_i a ha
      by_cases hst : a.stage = .forwarding
      · simp only [hst, if_true, Option.some.injEq] at hf
        exact ⟨a, ha, hst, hf.symm⟩
      · simp only [hst, if_false] at hf
        cases hf
  have access : (grantTo .forward x s).host.access = some { a with stage := .granted, timer := none } := by
    simp [grantTo, HostPort.granted, ha]
  refine .of_no_forward ⟨.refl _, ⟨?_, ?_, ?_⟩, fun hsh => ⟨(hold hsh).1, ?_⟩, fun _ _ => ?_⟩ rfl
  · rw [hostForward, access]
    simp [grantTo, Port.drop]
  · rw [access]
    simp [grantTo]
  · rw [access]
    simp [grantTo, forwardAccess, ← hfor]
  · unfold HoldLaw
    rw [access]
    simp [holdFits]
  · unfold SaveLaw
    rw [access]
    simp

/-- R140: a grant to the engine or the link reader leaves the access as it is. -/
theorem hostLaw_grantTo_other {q : Requester} {x : MemAccess} (h : HostLaw shield saved s s)
    (hb : s.port.busy = none) (hq : q ≠ .forward) :
    HostLaw shield saved (grantTo q x s) (grantTo q x s) := by
  obtain ⟨⟨-, tied, hold, serves⟩, waits⟩ := h
  have host : (grantTo q x s).host = s.host := by simp [grantTo, hq]
  have forward : (grantTo q x s).port.forward = s.port.forward := by
    cases q with
    | forward => exact absurd rfl hq
    | engine => rfl
    | link => rfl
  have law : HoldLaw (grantTo q x s) ↔ HoldLaw s := by
    unfold HoldLaw
    rw [host]
    exact Iff.rfl
  have waiting : waitingWrite (grantTo q x s) = waitingWrite s := by simp only [waitingWrite, forward]
  refine ⟨⟨.refl _, ⟨?_, ?_, ?_⟩, fun hsh => ⟨(hold hsh).1, law.2 (hold hsh).2⟩, fun hsh hsv => ?_⟩, fun hsh => ?_,
    fun hsh hsv => ?_⟩
  · rw [forward, host]
    exact tied.forward
  · rw [host]
    exact fun a ha hst => absurd hst (not_granted_of_idle tied hb ha)
  · intro b hm hw
    cases hm
    exact absurd hw hq
  · have serves := serves hsh hsv
    unfold SaveLaw at serves ⊢
    rwa [host]
  · unfold OutsideArea
    rw [waiting, forward]
    exact waits.1 hsh
  · unfold SavedAtDepth
    rw [waiting]
    exact waits.2 hsh hsv

/-- R139, R140: the grant that closes an event brings the laws of the port back. -/
theorem Open.grant (h : Open shield saved s) (ha : EngineAsked s) : Closed shield saved (grant s) := by
  obtain ⟨hrun, hlink, hengine, hhost⟩ := id h
  rcases grant_cases s with ⟨hb, hg⟩ | ⟨hb, hf, he, hl, hg⟩ | ⟨q, x, hb, hx, hg⟩ <;> rw [hg]
  · exact ⟨h, ha, fun hn => absurd hn hb⟩
  · exact ⟨h, ha, fun _ => ⟨hf, he, hl⟩⟩
  have idle : servesReader s.port = false ∧ s.port.servesEngine = false := by
    simp [servesReader, Port.servesEngine, hb]
  obtain ⟨noReader, noEngine⟩ := idle
  obtain ⟨-, asks, series, selected, ignoring⟩ := hlink
  rw [noReader] at asks
  rw [EngineAsked, noEngine] at ha
  have left : NoneLeft (grantTo q x s) := nofun
  cases q with
  | forward =>
    exact ⟨⟨hrun, ⟨by simp [grantTo], asks, series, selected, ignoring⟩, by simp [EngineServed, grantTo],
      hostLaw_grantTo_forward hhost hx⟩, ha, left⟩
  | engine =>
    have wanted : s.engine.wanted = some x := ha.symm.trans hx
    refine ⟨⟨hrun, ⟨by simp [grantTo], asks, series, selected, ignoring⟩, ?_,
      hostLaw_grantTo_other hhost hb nofun⟩, rfl, left⟩
    intro b hm _
    cases hm
    exact ⟨rfl, wanted⟩
  | link =>
    have wanted : linkWanted s.link = some x := asks.symm.trans hx
    refine ⟨⟨hrun, ⟨?_, rfl, series, selected, ignoring⟩, by simp [EngineServed, grantTo],
      hostLaw_grantTo_other hhost hb nofun⟩, ha, left⟩
    intro b hm _
    cases hm
    exact .inr ⟨rfl, wanted⟩

end Grant

/-! ## Events that a grant closes -/

/-- One event of a running part over the memory `m`: its blocks have moved by the law, and the port has granted. -/
def Closes (shield saved : Prop) (m : Memory) (t : State) : Prop :=
  ∃ u, Open shield saved u ∧ EngineAsked u ∧ u.memory = m ∧ t = grant u

section Events
variable {shield saved : Prop} {r s : State}

theorem Closes.closed {m : Memory} {t : State} (h : Closes shield saved m t) : Closed shield saved t := by
  obtain ⟨u, hu, asked, -, rfl⟩ := h
  exact hu.grant asked

/-- Between two events the port has nothing to grant. -/
theorem Closed.grant_eq (h : Closed shield saved s) : grant s = s := by
  cases hb : s.port.busy with
  | some b => simp only [grant, hb]
  | none =>
    obtain ⟨hf, he, hl⟩ := h.left hb
    exact grant_none hf he hl

theorem Closed.closes (h : Closed shield saved s) : Closes shield saved s.memory s :=
  ⟨s, h.toOpen, h.asked, rfl, h.grant_eq.symm⟩

theorem Open.closes (h : Open shield saved s) : Closes shield saved s.memory (settle s) := by
  obtain ⟨hrun, ⟨reads, asks, series, selected, ignoring⟩, hengine, ⟨⟨-, tied, hold, serves⟩, waits⟩⟩ := h
  exact ⟨requestEngine (renew s), ⟨hrun, ⟨reads, asks, series, selected, ignoring⟩, hengine,
    ⟨⟨.refl _, ⟨tied.forward, tied.granted, tied.served⟩, hold, serves⟩, waits⟩⟩, rfl, rfl, rfl⟩

/-- An event that moves the blocks of a running part by the law. -/
theorem Closed.settles (h : Closed shield saved r) (hs : HostLaw shield saved r s)
    (he : r.engine.wanted = none ∨ s.engine.wanted = r.engine.wanted) : Closes shield saved r.memory (settle s) := by
  obtain ⟨⟨⟨-, -, memory, -⟩, -⟩, -⟩ := id hs
  exact memory ▸ (h.toOpen.moved hs he).closes

/-- An event that leaves port and engine's request alone. -/
theorem Closed.stays (h : Closed shield saved r) (hs : HostLaw shield saved r s) (hp : s.port = r.port)
    (he : s.engine.wanted = r.engine.wanted) : Closes shield saved r.memory s := by
  obtain ⟨⟨⟨-, -, memory, -⟩, -⟩, -⟩ := id hs
  exact memory ▸ (h.calm hs hp he).closes

/-- With the port idle the engine moves freely. -/
theorem closes_of_idle {m : Memory} (hrun : r.power = .running) (hlink : LinkLaw r) (hb : r.port.busy = none)
    (hm : r.memory = m) (hs : HostLaw shield saved r s) : Closes shield saved m (settle s) := by
  obtain ⟨-, -, memory, busy, -⟩ := hs.framed
  exact hm ▸ memory ▸ (open_of_moved hrun hlink hs (engineServed_of_idle (busy.trans hb))).closes

end Events

end Sys2Proof.Machine
end

section
/-! SUPPORT. Every command of a running part as one event that keeps the laws of the port and of the host's access. -/

namespace Sys2Proof.Machine

open Sys2Proof.Safety

section Commands
variable {shield saved : Prop} {r s : State}

/-! ## What the engine asks for -/

/-- R34, R35: the four resting states. -/
theorem mode_of_resting {m : Mode} (h : m.name.resting = true) :
    m = .off ∨ m = .active ∨ m = .broken ∨ m = .halted := by
  cases m <;> simp [Mode.name, StateName.resting] at h ⊢

/-- R139: a resting engine asks for nothing. -/
theorem wanted_of_resting {e : Engine} (h : e.mode.name.resting = true) : e.wanted = none := by
  rcases mode_of_resting h with hm | hm | hm | hm <;> simp only [Engine.wanted, hm]

/-- R47, R53: a resting state runs no save and no break. -/
theorem holdsNone_of_resting {m : Mode} (h : m.name.resting = true) : m.holdsNone = true := by
  rcases mode_of_resting h with rfl | rfl | rfl | rfl <;> rfl

/-- R49: a stored save asks for nothing. -/
theorem wanted_of_stored {e : Engine} {w : SaveWork} (hm : e.mode = .saving w) (h : 39 ≤ w.done) :
    e.wanted = none := by
  simp only [Engine.wanted, hm, saveAccess_none e w h]

/-- R49: what ends with the access that a save served asks for nothing before. -/
theorem savingServed_wanted (s : State) :
    s.engine.wanted = none ∨ (savingServed s).engine = s.engine := by
  unfold savingServed
  split
  · split
    · exact .inl (wanted_of_stored ‹_› ‹_›)
    · exact .inr rfl
  · exact .inr rfl

/-- R24, R127: a treatment moves the engine by a lookup alone, and that in ACTIVE. -/
theorem treat_wanted (a : HostAccess) (s : State) (x : HalfAddr) (d : Direction) :
    s.engine.wanted = none ∨ (treat (classify s x d) a s).engine.wanted = s.engine.wanted := by
  cases hc : classify s x d with
  | forward w => exact .inr rfl
  | hold => exact .inr rfl
  | lookup =>
    have hm : s.engine.mode = .active := Decidable.byContradiction fun hm => classify_ne_lookup s _ _ hm hc
    exact .inl (wanted_of_resting (by rw [hm]; rfl))
  | refuse i =>
    have he : (refuseAccess i a s).engine = s.engine := by simp
    exact .inr (by rw [treat, he])

/-! ## The host bus -/

/-- R127: an access with a lane, classified at its arrival. -/
theorem arriveClassified_closes (a : HostAccess) (h : Closed shield saved s) (ha : s.host.access = none) :
    Closes shield saved s.memory (arriveClassified a (setCycle true s)) := by
  obtain ⟨⟨-, tied, hold, -⟩, -⟩ := h.host
  have idle : s.port.forward = none := by rw [tied.forward, hostForward, ha]
  have unserved : ∀ b ∈ s.port.busy, b.who ≠ .forward := by
    intro b hb hw
    obtain ⟨-, x, hx, -⟩ := tied.served b hb hw
    simp [ha] at hx
  exact h.settles (treat_hostLaw (s := takeArrival a (setCycle true s)) a ⟨rfl, rfl, rfl, rfl, rfl⟩ idle unserved
    fun hsh => (hold hsh).1) (treat_wanted a (takeArrival a (setCycle true s)) _ _)

theorem arrive_closes (addr : HalfAddr) (st : Strobes) (l u : Bool) (d : Half) (h : Closed shield saved s)
    (ha : s.host.access = none) : Closes shield saved s.memory (arrive addr st l u d (setCycle true s)) := by
  have answered (host : HostPort) (hh : host.access = s.host.access) :
      Closes shield saved s.memory { s with host := host } := h.stays (h.host.withHost host hh) rfl rfl
  cases st with
  | both =>
    have both : HostLaw shield saved s (bothStrobesAnswer (l || u) (setCycle true s)) :=
      h.host.withHost (bothStrobesAnswer (l || u) (setCycle true s)).host rfl
    exact h.stays both rfl rfl
  | read =>
    simp only [arrive]
    split
    · exact arriveClassified_closes _ h ha
    · exact answered _ rfl
  | write =>
    simp only [arrive]
    split
    · exact arriveClassified_closes _ h ha
    · exact answered _ rfl

/-- R124, R125: the end of the host's cycle. -/
theorem endCycle_closes (h : Closed shield saved s) :
    Closes shield saved s.memory { s with host := endCycle s.host s.power } := by
  refine h.stays ?_ rfl rfl
  have hrun := h.running
  cases ha : s.host.access with
  | none => exact h.host.withHost (endCycle s.host s.power) (by simp only [endCycle, hrun, ha])
  | some a =>
    exact h.host.withAbandoned (endCycle s.host s.power) (fun _ => true)
      (by simp only [endCycle, hrun, ha, Option.map_some])

/-- R140: the port freed of an access that was not the link reader's keeps the link's request right. -/
theorem linkLaw_releasePort {b : PortBusy} {q : Requester} (h : LinkLaw s) (hb : s.port.busy = some b)
    (hw : b.who ≠ .link ∨ b.discard = true) : LinkLaw (releasePort q s) := by
  obtain ⟨-, asks, series, selected, ignoring⟩ := h
  have unserved : servesReader s.port = false := by
    rcases hw with hw | hw <;> simp [servesReader, hb, hw]
  rw [unserved] at asks
  exact ⟨nofun, asks, series, selected, ignoring⟩

/-- R128: a WATCH record changes the record queue and the causes alone. -/
theorem watchRecord_frame (a : HostAccess) (d : Half) (s : State) :
    (watchRecord a d s).power = s.power ∧ (watchRecord a d s).engine = s.engine ∧
    (watchRecord a d s).regions = s.regions ∧ (watchRecord a d s).port = s.port ∧
    (watchRecord a d s).link = s.link ∧ (watchRecord a d s).memory = s.memory := by
  unfold watchRecord
  split <;> simp

/-- R136: a forward that completes answers its access. -/
theorem forwardDone_closes {b : PortBusy} (a : HostAccess) (v : Half) (h : Closed shield saved s)
    (hb : s.port.busy = some b) (hw : b.who = .forward) :
    Closes shield saved s.memory (settle (forwardDone a v (releasePort .forward s))) := by
  obtain ⟨⟨-, tied, hold, -⟩, -⟩ := h.host
  have idle : s.port.forward = none := by
    obtain ⟨-, x, hx, hst, -⟩ := tied.served b hb hw
    exact no_forward_of_stage tied hx (by simp [hst])
  unfold forwardDone
  dsimp only
  generalize (if a.dir = .read then laneData a.lanes v else a.data) = d
  obtain ⟨hp, he, hr, hport, hl, hm⟩ := watchRecord_frame a d (releasePort .forward s)
  generalize watchRecord a d (releasePort .forward s) = x at *
  generalize (if a.dir = .read then some (laneData a.lanes v) else none) = data
  have answered : HostLaw shield saved (releasePort .forward s) (answer true data a x) :=
    hostLaw_of_no_access ⟨hp, hl, hm, congrArg Port.busy hport, congrArg Port.link hport⟩ rfl
      ((congrArg Port.forward hport).trans idle) (by simp [answer, hport]) fun hsh => by
        have area := (hold hsh).1
        simp only [SameArea] at area ⊢
        simpa [answer, he, hr] using area
  exact closes_of_idle (r := releasePort .forward s) h.running
    (linkLaw_releasePort h.link hb (.inl (by simp [hw]))) rfl rfl (savingServed_hostLaw answered)

/-- R134: a hold timer that expires refuses an access that is not granted. -/
theorem expireHold_closes {a : HostAccess} (h : Closed shield saved s) (ha : s.host.access = some a)
    (ht : timerRuns a = true) : Closes shield saved s.memory (settle (expireHold a s)) := by
  obtain ⟨⟨-, tied, hold, -⟩, -⟩ := h.host
  have waits : a.stage ≠ .granted := by
    intro hst
    obtain ⟨hno, -⟩ := tied.granted a ha hst
    simp [timerRuns, hno] at ht
  have refused : HostLaw shield saved s (answerRefused a (raise .holdExpired (withdrawForward s))) :=
    hostLaw_of_no_access ⟨rfl, rfl, rfl, rfl, rfl⟩ rfl rfl (not_serving_of_stage (p := s.port) tied ha waits)
      fun hsh => (hold hsh).1
  refine h.settles (savingServed_hostLaw refused) ?_
  rcases savingServed_wanted (answerRefused a (raise .holdExpired (withdrawForward s))) with hw | hw
  · exact .inl hw
  · exact .inr (congrArg Engine.wanted hw)

/-! ## The engine's completions -/

/-- R139: with the engine's access in progress no host access is granted, and the freed port serves nothing. -/
theorem hostLaw_releasePort {b : PortBusy} {q : Requester} (h : HostLaw shield saved s s)
    (hb : s.port.busy = some b) (hw : b.who ≠ .forward) :
    HostLaw shield saved (releasePort q s) (releasePort q s) := by
  obtain ⟨⟨-, tied, hold, serves⟩, waits⟩ := h
  refine ⟨⟨.refl _, ⟨tied.forward, fun a ha hst => ?_, nofun⟩, hold, serves⟩, waits⟩
  obtain ⟨-, x, hx, hwho⟩ := tied.granted a ha hst
  rw [hb] at hx
  cases hx
  exact absurd hwho hw

theorem advance_closes {b : PortBusy} (h : Closed shield saved s) (hb : s.port.busy = some b)
    (hw : b.who = .engine)
    (hstack : saved → s.engine.mode ≠ .off → s.engine.mode ≠ .broken → s.engine.stack ≠ []) :
    Closes shield saved s.memory (settle (advance b.seen (releasePort .engine s))) := by
  have freed := hostLaw_releasePort (q := .engine) h.host hb (by simp [hw])
  exact closes_of_idle (r := releasePort .engine s) h.running
    (linkLaw_releasePort h.link hb (.inl (by simp [hw]))) rfl rfl (advance_hostLaw b.seen freed hstack)

/-- R31: while a clear sweep runs the engine asks for nothing. -/
theorem wanted_of_clearSweep {t : State} (hc : clearSweep s = some t) : s.engine.wanted = none := by
  cases hm : s.engine.mode with
  | arming step =>
    rcases step with got | ⟨epoch, _ | k | w⟩ <;> simp only [clearSweep, hm, reduceCtorEq] at hc
    simp only [Engine.wanted, hm, buildAccess]
  | committing epoch step =>
    rcases step with _ | k | w <;> simp only [clearSweep, hm, reduceCtorEq] at hc
    simp only [Engine.wanted, hm, buildAccess]
  | disarming step =>
    rcases step with _ | w <;> simp only [clearSweep, hm, reduceCtorEq] at hc
    simp only [Engine.wanted, hm, closeAccess]
  | breaking step =>
    rcases step with _ | w <;> simp only [clearSweep, hm, reduceCtorEq] at hc
    simp only [Engine.wanted, hm, closeAccess]
  | _ => simp only [clearSweep, hm, reduceCtorEq] at hc

/-- R30: while the relabel sweep runs the engine asks for nothing. -/
theorem wanted_of_relabelSweep {t : State} (hc : relabelSweep s = some t) : s.engine.wanted = none := by
  unfold relabelSweep at hc
  split at hc
  next hm => simp only [Engine.wanted, hm]
  · cases hc

/-! ## The request lines -/

/-- R66, R67: an edge of MARK_REQ with its enable set. -/
theorem markEdge_closes (h : Closed shield saved s) : Closes shield saved s.memory (settle (markEdge s)) := by
  cases hr : s.engine.mode.name.resting with
  | false =>
    rw [markEdge_running hr]
    split
    · exact h.settles h.host (.inr rfl)
    · exact h.settles h.host (.inr rfl)
  | true =>
    refine h.settles ?_ (.inl (wanted_of_resting hr))
    unfold markEdge markRequest
    dsimp only
    split
    · split
      · exact beginMark_hostLaw _ h.host.access (holdsNone_of_resting hr)
      · exact refuseMarkRequest_hostLaw _ h.host
      · exact refuseMarkRequest_hostLaw _ h.host
    · exact h.host

/-- R66, R67: an edge of UNDO_REQ with its enable set. -/
theorem undoEdge_closes (h : Closed shield saved s) : Closes shield saved s.memory (settle (undoEdge s)) := by
  cases hr : s.engine.mode.name.resting with
  | false =>
    rw [undoEdge_running hr]
    split
    · exact h.settles h.host (.inr rfl)
    · exact h.settles h.host (.inr rfl)
  | true =>
    refine h.settles ?_ (.inl (wanted_of_resting hr))
    unfold undoEdge
    dsimp only
    split
    · exact beginUndo_hostLaw _ h.host.access (holdsNone_of_resting hr)
    · exact h.host

/-! ## The link -/

/-- R185: a running part whose link has no series: the reader asks for nothing, and what it still reads is discarded. -/
structure NoSeries (shield saved : Prop) (s : State) : Prop where
  running : s.power = .running
  reader : s.link.reader = none
  request : s.port.link = none
  discards : ∀ b ∈ s.port.busy, b.who = .link → b.discard = true
  engine : EngineServed s
  asked : EngineAsked s
  left : NoneLeft s
  host : HostLaw shield saved s s

/-- R169, R186: nSS is low while a frame is open or ignored, and a link that ignores has no frame open. -/
def NssLaw (l : Link) : Prop :=
  l.selected = (l.ignoring || l.frame.isSome) ∧ (l.ignoring = true → l.frame = none)

/-- R185: a granted read of an ended series is discarded, and any other access in progress stays. -/
theorem discarded_cases {busy : Option PortBusy} {b : PortBusy}
    (hb : b ∈ busy.map fun b => if b.who = .link then { b with discard := true } else b) :
    ∃ x ∈ busy, b.who = x.who ∧ (b.who = .link → b.discard = true) ∧ (b.who ≠ .link → b = x) := by
  obtain ⟨x, hx, rfl⟩ := Option.mem_map.1 hb
  refine ⟨x, hx, ?_⟩
  by_cases hw : x.who = .link <;> simp [hw]

/-- R185: the end of a series, on a link that runs one or none. -/
theorem noSeries_seriesEnded (h : Closed shield saved s) : NoSeries shield saved (seriesEnded s) := by
  obtain ⟨⟨hrun, ⟨reads, asks, -⟩, engine, ⟨⟨-, tied, hold, serves⟩, waits⟩⟩, asked, left⟩ := id h
  unfold seriesEnded
  split
  · refine ⟨hrun, rfl, rfl, fun b hb hw => ?_, fun b hb hw => ?_, ?_, fun hn => ?_,
      ⟨⟨.refl _, ⟨tied.forward, fun a ha hst => ?_, fun b hb hw => ?_⟩, hold, serves⟩, waits⟩⟩
    · obtain ⟨-, -, -, hd, -⟩ := discarded_cases hb
      exact hd hw
    · obtain ⟨x, hx, -, -, same⟩ := discarded_cases hb
      obtain rfl := same (by simp [hw])
      exact engine b hx hw
    · have who : (s.port.busy.map fun b => if b.who = .link then { b with discard := true } else b).map PortBusy.who
          = s.port.busy.map PortBusy.who := by
        rw [Option.map_map]
        refine Option.map_congr fun b _ => ?_
        by_cases hw : b.who = .link <;> simp [hw]
      simp only [EngineAsked, servesEngine_iff, who]
      simpa only [EngineAsked, servesEngine_iff] using asked
    · obtain ⟨hf, he, -⟩ := left (Option.map_eq_none_iff.1 hn)
      exact ⟨hf, he, rfl⟩
    · obtain ⟨ht, x, hx, hw⟩ := tied.granted a ha hst
      exact ⟨ht, x, Option.mem_map.2 ⟨x, hx, by simp [hw]⟩, hw⟩
    · obtain ⟨x, hx, -, -, same⟩ := discarded_cases hb
      obtain rfl := same (by simp [hw])
      exact tied.served b hx hw
  · rename_i hn
    have none_runs : s.link.reader = none := by simpa using hn
    have nothing : linkWanted s.link = none := by simp only [linkWanted, none_runs]
    refine ⟨hrun, none_runs, by rw [asks, nothing, ite_self], fun b hb hw => ?_, engine, asked, left, h.host⟩
    rcases reads b hb hw with hd | ⟨-, hx⟩
    · exact hd
    · rw [nothing] at hx
      cases hx

/-- Over a link without a series every frame that keeps to nSS is right. -/
theorem linkLaw_of_noSeries (h : NoSeries shield saved s) (hnss : NssLaw s.link) : LinkLaw s := by
  have nothing : linkWanted s.link = none := by simp only [linkWanted, h.reader]
  exact ⟨fun b hb hw => .inl (h.discards b hb hw), by rw [h.request, nothing, ite_self], by simp [h.reader],
    hnss.1, hnss.2⟩

/-- The frame and nSS are no part of what a link without a series keeps. -/
theorem NoSeries.withLink (h : NoSeries shield saved s) {l : Link} (hl : l.reader = none) :
    NoSeries shield saved { s with link := l } := by
  obtain ⟨hrun, -, request, discards, engine, asked, left, ⟨⟨-, rest⟩, waits⟩⟩ := h
  exact ⟨hrun, hl, request, discards, engine, asked, left, ⟨⟨.refl _, rest⟩, waits⟩⟩

theorem NoSeries.closed (h : NoSeries shield saved s) (hnss : NssLaw s.link) : Closed shield saved s :=
  ⟨⟨h.running, linkLaw_of_noSeries h hnss, h.engine, h.host⟩, h.asked, h.left⟩

/-- An event of the blocks behind a link without a series. -/
theorem NoSeries.moved (h : NoSeries shield saved r) (hs : HostLaw shield saved r s) (hp : s.port = r.port)
    (he : s.engine.wanted = r.engine.wanted) : NoSeries shield saved s := by
  obtain ⟨power, link, -⟩ := hs.framed
  refine ⟨power.trans h.running, by rw [link, h.reader], by rw [hp, h.request], ?_, ?_, ?_, ?_, hs.rebase (.refl s)⟩
  · rw [hp]
    exact h.discards
  · exact h.engine.of_framed hs.framed (.inr he)
  · rw [EngineAsked, hp, he]
    exact h.asked
  · rw [NoneLeft, hp]
    exact h.left

/-- R169, R172: the frame of a command that is taken: open and unanswered, at a link that listens. -/
structure FrameOpen (shield saved : Prop) (s : State) : Prop extends NoSeries shield saved s where
  link : s.link = { selected := true, ignoring := false, frame := none, reader := none }

theorem listening_iff (s : State) : listening s = true ↔ s.power = .running ∧ s.link.ignoring = false := by
  simp [listening]

theorem frameOpen_openFrame (h : Closed shield saved s) (hl : listening s = true) :
    FrameOpen shield saved (openFrame s) := by
  have ended := noSeries_seriesEnded h
  have ignoring : (seriesEnded s).link.ignoring = false := by
    have := (listening_iff s).1 hl
    unfold seriesEnded
    split <;> exact this.2
  rw [openFrame_eq, frameBegun]
  refine ⟨ended.withLink (l := { (seriesEnded s).link with selected := true, frame := none }) ended.reader, ?_⟩
  simp only [ignoring, ended.reader]

theorem openFrame_memory (s : State) : (openFrame s).memory = s.memory := by
  rw [openFrame_eq]
  simp

/-- R172, R176: the answer to a command leaves its frame open. -/
theorem nssLaw_answered {l : Link} (h : l = { selected := true, ignoring := false, frame := none, reader := none })
    (f : Option Frame) (hf : f.isSome = true) : NssLaw { l with frame := f } := by
  subst h
  exact ⟨by simp [hf], nofun⟩

/-- A command answered with no grant to follow (R176). -/
theorem FrameOpen.answered (h : FrameOpen shield saved r) (hs : HostLaw shield saved r s) (hp : s.port = r.port)
    (he : s.engine.wanted = r.engine.wanted) (code : Byte) (st : Status) (data : List Byte) :
    Closes shield saved r.memory (respond code st data s) := by
  obtain ⟨-, link, memory, -⟩ := hs.framed
  have moved := h.toNoSeries.moved hs hp he
  have answered : NoSeries shield saved (respond code st data s) := moved.withLink moved.reader
  exact memory ▸ (answered.closed (nssLaw_answered (link.trans h.link) _ rfl)).closes

/-- A command answered with nothing else changed. -/
theorem FrameOpen.replies (h : FrameOpen shield saved s) (code : Byte) (st : Status) (data : List Byte) :
    Closes shield saved s.memory (respond code st data s) :=
  h.answered h.host rfl rfl code st data

/-- A command that moves the engine is answered and closed by the grant (R35). -/
theorem FrameOpen.accepts (h : FrameOpen shield saved r) (hs : HostLaw shield saved r s)
    (served : EngineServed s) (code : Byte) (st : Status) (data : List Byte) :
    Closes shield saved r.memory (settle (respond code st data s)) := by
  obtain ⟨⟨frame, rest⟩, waits⟩ := id hs
  obtain ⟨power, link, memory, busy, request⟩ := frame
  have law : LinkLaw (respond code st data s) := by
    have nothing : linkWanted (respond code st data s).link = none := by
      simp only [linkWanted, respond_link, link, h.reader]
    obtain ⟨selected, ignoring⟩ := nssLaw_answered (link.trans h.link)
      (some { code := code, response := some (responseOf st data) }) rfl
    refine ⟨fun b hb hw => .inl (h.discards b (busy ▸ hb) hw), ?_, ?_, selected, ignoring⟩
    · rw [nothing, ite_self]
      exact request.trans h.request
    · simp [link, h.reader]
  exact memory ▸ Open.closes (s := respond code st data s)
    ⟨power.trans h.running, law, served, ⟨⟨.refl _, rest⟩, waits⟩⟩

/-! ### Framing -/

theorem takeFrame_closes (bytes : List Byte) (crc : Byte) (act : State → State) (h : Closed shield saved s)
    (hact : ∀ o, FrameOpen shield saved o → Closes shield saved o.memory (act o)) :
    Closes shield saved s.memory (takeFrame bytes crc act s) := by
  unfold takeFrame
  split
  · have frame := frameOpen_openFrame h ‹_›
    rw [← openFrame_memory s]
    dsimp only
    split
    · exact hact _ frame
    · exact frame.answered (s := raise .linkError (openFrame s)) frame.host rfl rfl _ _ _
  · exact h.closes

theorem answerUnknown_closes (code : Byte) (h : Closed shield saved s) :
    Closes shield saved s.memory (answerUnknown code s) := by
  unfold answerUnknown
  split
  · have frame := frameOpen_openFrame h ‹_›
    rw [← openFrame_memory s]
    exact frame.answered (s := raise .linkError (openFrame s)) frame.host rfl rfl _ _ _
  · exact h.closes

/-- R169, R185: nSS rises on a link that listens. -/
theorem closeFrame_closed (h : Closed shield saved s) (hl : listening s = true) :
    Closed shield saved (closeFrame s) := by
  have ended := noSeries_seriesEnded h
  have ignoring : (seriesEnded s).link.ignoring = false := by
    have := (listening_iff s).1 hl
    unfold seriesEnded
    split <;> exact this.2
  rw [closeFrame_eq, frameEnded]
  exact (ended.withLink (l := { (seriesEnded s).link with selected := false, frame := none }) ended.reader).closed
    ⟨by simp [ignoring], fun _ => rfl⟩

theorem closeFrame_memory (s : State) : (closeFrame s).memory = s.memory := by
  rw [closeFrame_eq]
  simp

theorem closeFrame_closes (h : Closed shield saved s) (hl : listening s = true) :
    Closes shield saved s.memory (closeFrame s) :=
  closeFrame_memory s ▸ (closeFrame_closed h hl).closes

/-- R173: a short frame latches LINK_ERROR as it ends. -/
theorem shortFrame_closes (h : Closed shield saved s) (hl : listening s = true) :
    Closes shield saved s.memory (raise .linkError (closeFrame s)) := by
  have ended := closeFrame_closed h hl
  exact closeFrame_memory s ▸ ended.stays (s := raise .linkError (closeFrame s)) ended.host rfl rfl

/-- R186: the first rise of nSS after a release that found it low. -/
theorem nssRise_closes (h : Closed shield saved s) (hi : s.link.ignoring = true) :
    Closes shield saved s.memory { s with link := { s.link with selected := false, ignoring := false } } := by
  obtain ⟨⟨hrun, ⟨reads, asks, series, -, ignoring⟩, engine, ⟨⟨-, rest⟩, waits⟩⟩, asked, left⟩ := h
  exact Closed.closes (s := { s with link := { s.link with selected := false, ignoring := false } })
    ⟨⟨hrun, ⟨reads, asks, series, by simp [ignoring hi], nofun⟩, engine, ⟨⟨.refl _, rest⟩, waits⟩⟩, asked, left⟩

/-- R185: the status byte is due. -/
theorem statusDue_closes {f : Frame} (code : Byte) (x : Reader) (h : Closed shield saved s)
    (hf : s.link.frame = some f) : Closes shield saved s.memory (statusDue code x s) := by
  have ended := noSeries_seriesEnded h
  have memory : (seriesEnded s).memory = s.memory := by
    unfold seriesEnded
    split <;> rfl
  have nss : (seriesEnded s).link.selected = s.link.selected ∧ (seriesEnded s).link.ignoring = s.link.ignoring := by
    unfold seriesEnded
    split <;> exact ⟨rfl, rfl⟩
  have answered (g : Frame) : Closes shield saved s.memory (setFrame (some g) (seriesEnded s)) := by
    have sel : s.link.ignoring = false := by
      cases hi : s.link.ignoring with
      | false => rfl
      | true =>
        have := h.link.ignoring hi
        simp [hf] at this
    have closed := (ended.withLink (l := { (seriesEnded s).link with frame := some g }) ended.reader).closed
      ⟨by simp [nss, h.link.selected, hf], by simp [nss, sel]⟩
    rw [← memory]
    exact closed.closes
  unfold statusDue
  rw [endSeries_eq]
  dsimp only
  split
  · exact answered _
  · exact answered _

/-- R183: the reader's next halfword is requested in the series `x`, over the frame `f`. -/
def readerAsks (f : Frame) (x : Reader) (s : State) : State :=
  { s with
    link := { s.link with frame := some f, reader := some x }
    port := { s.port with link := readerRequest x } }

/-- R183: a reader with no read of its own in progress asks for its next halfword. -/
theorem open_readerAsks {f : Frame} (x : Reader) (hrun : s.power = .running) (engine : EngineServed s)
    (host : HostLaw shield saved s s) (discards : ∀ b ∈ s.port.busy, b.who = .link → b.discard = true)
    (hf : f.response = none) (hs : s.link.selected = true) (hi : s.link.ignoring = false) :
    Open shield saved (readerAsks f x s) := by
  obtain ⟨⟨-, ⟨forward, granted, served⟩, rest⟩, waits⟩ := host
  have unserved : servesReader (readerAsks f x s).port = false := by
    unfold servesReader
    split
    · rfl
    · rename_i b hb
      by_cases hw : b.who = .link
      · simp [discards b hb hw]
      · simp [hw]
  refine ⟨hrun, ⟨fun b hb hw => .inl (discards b hb hw), ?_, fun _ => ⟨f, rfl, hf⟩, ?_, ?_⟩, engine,
    ⟨⟨.refl _, ⟨forward, granted, served⟩, rest⟩, waits⟩⟩
  · rw [unserved]
    rfl
  · simp [readerAsks, hs]
  · simp [readerAsks, hi]

/-- R183: a read of the link reader that completes. -/
theorem readComplete_closes {b : PortBusy} (h : Closed shield saved s) (hb : s.port.busy = some b)
    (hw : b.who = .link) : Closes shield saved s.memory
      (grant (if b.discard then releasePort .link s else seriesRead b.seen (releasePort .link s))) := by
  have freed := hostLaw_releasePort (q := .link) h.host hb (by simp [hw])
  have idle : EngineAsked (releasePort .link s) := by
    have asked := h.asked
    simp only [EngineAsked, Port.servesEngine, hb, hw] at asked
    simpa [EngineAsked, Port.servesEngine] using asked
  split
  · rename_i hd
    exact ⟨releasePort .link s, ⟨h.running, linkLaw_releasePort h.link hb (.inr hd), by simp [EngineServed], freed⟩,
      idle, rfl, rfl⟩
  · rename_i hd
    obtain ⟨reads, -, series, selected, ignoring⟩ := h.link
    obtain ⟨x, hx⟩ : ∃ x, s.link.reader = some x := by
      rcases reads b hb hw with hd' | ⟨-, hwant⟩
      · exact absurd hd' hd
      · unfold linkWanted at hwant
        split at hwant
        · cases hwant
        · exact ⟨_, ‹_›⟩
    obtain ⟨f, hf, hresponse⟩ := series (by simp [hx])
    have hf : s.link.frame = some f := hf
    have read : seriesRead b.seen (releasePort .link s)
        = readerAsks f { x with got := x.got ++ [b.seen] } (releasePort .link s) := by
      simp only [seriesRead, releasePort_link, hx, readerAsks, ← hf]
      rfl
    have heard : s.link.ignoring = false := by
      cases hi : s.link.ignoring with
      | false => rfl
      | true => simp [ignoring hi] at hf
    rw [read]
    exact ⟨_, open_readerAsks (s := releasePort .link s) _ h.running (engineServed_of_idle rfl) freed nofun hresponse
      (by simp [selected, hf]) heard, idle, rfl, rfl⟩

/-- R183, R184: a series begins in its frame. -/
theorem beginSeries_closes (code : Byte) (start : HalfAddr) (total : Nat) (h : FrameOpen shield saved s) :
    Closes shield saved s.memory (beginSeries code start total s) :=
  ⟨readerAsks { code := code, response := none } { start := start, total := total, got := [] } s,
    open_readerAsks _ h.running h.engine h.host h.discards rfl (by simp [h.link]) (by simp [h.link]), h.asked, rfl, rfl⟩

/-! ### The commands -/

/-- R35, R177: a command that is not taken in the present state is answered at once. -/
theorem gated_closes (code : Byte) (taken : StateName → Bool) (act : State → State) (h : FrameOpen shield saved s)
    (hact : s.engine.mode.name.resting = true → taken s.engine.mode.name = true →
      Closes shield saved s.memory (act s)) : Closes shield saved s.memory (gated code taken act s) := by
  cases hr : s.engine.mode.name.resting with
  | false =>
    rw [gated_busy code taken act s hr]
    exact h.replies _ _ _
  | true =>
    cases ht : taken s.engine.mode.name with
    | false =>
      rw [gated_state code taken act s hr ht]
      exact h.replies _ _ _
    | true =>
      rw [gated_taken code taken act s hr ht]
      exact hact hr ht

/-- R35: a command that begins an operation in a resting state. -/
theorem FrameOpen.begins (h : FrameOpen shield saved r) (hr : r.engine.mode.name.resting = true)
    (hs : HostLaw shield saved r s) (code : Byte) (st : Status) (data : List Byte) :
    Closes shield saved r.memory (settle (respond code st data s)) :=
  h.accepts hs (h.engine.of_framed hs.framed (.inl (wanted_of_resting hr))) code st data

theorem takeFetch_closes (h : FrameOpen shield saved s) : Closes shield saved s.memory (takeFetch s) := by
  unfold takeFetch
  split
  · exact h.replies _ _ _
  · exact h.answered (s := clearLatches _ s) h.host rfl rfl _ _ _

theorem takeCauseLevel_closes (cause level : Byte) (h : FrameOpen shield saved s) :
    Closes shield saved s.memory (takeCauseLevel cause level s) := by
  unfold takeCauseLevel
  split
  · split
    · exact h.answered (s := setLevelOf _ _ s) h.host rfl rfl _ _ _
    · exact h.replies _ _ _
  · exact h.replies _ _ _

theorem takeThreshold_closes (threshold : Byte) (h : FrameOpen shield saved s) :
    Closes shield saved s.memory (takeThreshold threshold s) := by
  unfold takeThreshold
  split
  · exact h.answered (s := setThresholdTo _ s) h.host rfl rfl _ _ _
  · exact h.replies _ _ _

theorem takeReadRegion_closes (index : Byte) (h : FrameOpen shield saved s) :
    Closes shield saved s.memory (takeReadRegion index s) := by
  unfold takeReadRegion
  split
  · exact h.replies _ _ _
  · exact h.replies _ _ _

/-- R180: the four options are no part of the law. -/
theorem takeOptions_closes (select holdLimit policy : Byte) (highMark : Half) (enables : Byte)
    (h : FrameOpen shield saved s) :
    Closes shield saved s.memory (takeOptions select holdLimit policy highMark enables s) := by
  have written : HostLaw shield saved s (writeOptions select holdLimit highMark enables s) :=
    h.host.withHost (writeOptions select holdLimit highMark enables s).host rfl
  unfold takeOptions
  split
  · exact h.replies _ _ _
  · dsimp only
    split
    · split
      · exact h.answered (s := setPolicy (policyOf policy) (writeOptions select holdLimit highMark enables s))
          written rfl rfl _ _ _
      · exact h.answered written rfl rfl _ _ _
    · exact h.answered written rfl rfl _ _ _

theorem takeReadSlot_closes (index : Half) (h : FrameOpen shield saved s) :
    Closes shield saved s.memory (takeReadSlot index s) := by
  unfold takeReadSlot
  split
  · exact beginSeries_closes _ _ _ h
  · exact h.replies _ _ _

theorem takeReadHead_closes (copy : Byte) (h : FrameOpen shield saved s) :
    Closes shield saved s.memory (takeReadHead copy s) := by
  unfold takeReadHead
  split
  · exact beginSeries_closes _ _ _ h
  · split
    · exact beginSeries_closes _ _ _ h
    · exact h.replies _ _ _

theorem takeArm_closes (h : FrameOpen shield saved s) : Closes shield saved s.memory (takeArm s) := by
  refine gated_closes _ _ _ h fun hr _ => ?_
  split
  · exact h.begins hr (beginArm_hostLaw h.host.access (holdsNone_of_resting hr)) _ _ _
  · exact h.replies _ _ _

/-- R89: a DISARM in an undo whose slot is in progress is noted; with none in progress the engine waits for nothing. -/
theorem disarmUndo_closes {u : UndoWork} (h : FrameOpen shield saved s) (hm : s.engine.mode = .undoing u) :
    Closes shield saved s.memory (disarmUndo u s) := by
  have barred : s.engine.mode.barred = true := by rw [hm]; rfl
  unfold disarmUndo
  split
  · exact h.replies _ _ _
  · split
    · refine h.answered (s := setMode (.undoing { u with disarm := true }) s)
        (h.host.setMode (quietMode_of_barred barred rfl)) rfl ?_ _ _ _
      simp only [Engine.wanted, hm]
      rfl
    · rename_i hidle
      have aborted := undoAborted_hostLaw h.host barred
      obtain ⟨-, -, -, busy, -⟩ := aborted.framed
      refine h.accepts aborted (fun b hb hw => absurd ((slotInProgress_iff u s).2 (.inr ?_)) hidle) _ _ _
      rw [← busy, hb, Option.map_some, hw]

theorem takeDisarm_closes (h : FrameOpen shield saved s) : Closes shield saved s.memory (takeDisarm s) := by
  unfold takeDisarm
  split
  · exact disarmUndo_closes h ‹_›
  · exact gated_closes _ _ _ h fun hr _ =>
      h.begins hr (beginDisarm_hostLaw h.host.access (holdsNone_of_resting hr)) _ _ _

theorem takeMark_closes (label : Half) (h : FrameOpen shield saved s) :
    Closes shield saved s.memory (takeMark label s) := by
  refine gated_closes _ _ _ h fun hr _ => ?_
  unfold markTested
  split
  · exact h.replies _ _ _
  · exact h.answered (s := raise .journalFull s) h.host rfl rfl _ _ _
  · exact h.begins hr (beginMark_hostLaw label h.host.access (holdsNone_of_resting hr)) _ _ _

theorem takeRelease_closes (h : FrameOpen shield saved s) : Closes shield saved s.memory (takeRelease s) := by
  refine gated_closes _ _ _ h fun hr _ => ?_
  split
  · exact h.replies _ _ _
  · exact h.begins hr (beginRelease_hostLaw h.host.access (holdsNone_of_resting hr)) _ _ _

theorem takeUndo_closes (option : Byte) (h : FrameOpen shield saved s) :
    Closes shield saved s.memory (takeUndo option s) := by
  refine gated_closes _ _ _ h fun hr _ => ?_
  have begun (drop : Bool) := beginUndo_hostLaw drop h.host.access (holdsNone_of_resting hr)
  unfold undoTested
  split
  · exact h.begins hr (begun false) _ _ _
  · split
    · split
      · exact h.replies _ _ _
      · exact h.begins hr (begun true) _ _ _
    · exact h.replies _ _ _

theorem takeCommit_closes (h : FrameOpen shield saved s) : Closes shield saved s.memory (takeCommit s) :=
  gated_closes _ _ _ h fun hr _ => h.begins hr (beginCommit_hostLaw h.host.access (holdsNone_of_resting hr)) _ _ _

theorem takeResume_closes (option : Byte) (h : FrameOpen shield saved s) :
    Closes shield saved s.memory (takeResume option s) := by
  refine gated_closes _ _ _ h fun hr _ => ?_
  split
  · exact h.begins hr (beginResume_hostLaw _ h.host.access (holdsNone_of_resting hr)) _ _ _
  · exact h.replies _ _ _

/-- R150: the area moves in OFF. -/
theorem setAreaValues_accessLaw (b n : Nat) (h : AccessLaw shield saved r s) (hm : s.engine.mode = .off) :
    AccessLaw shield saved r (setAreaValues b n s) := by
  obtain ⟨frame, tied, hold, serves⟩ := h
  refine ⟨frame, tied, fun hsh => ⟨⟨rfl, rfl⟩, fun a ha => ?_⟩, serves⟩
  obtain ⟨hfit, -⟩ := (hold hsh).2 a ha
  obtain ⟨hsave, hbreak⟩ := stage_of_holdsNone (by rw [hm]; rfl) hfit
  exact ⟨hfit, fun hst => (hst.elim hsave hbreak).elim⟩

theorem takeSetArea_closes (base slots : Half) (h : FrameOpen shield saved s) :
    Closes shield saved s.memory (takeSetArea base slots s) := by
  refine gated_closes _ _ _ h fun hr ht => ?_
  split
  · have hm : s.engine.mode = .off := by
      rcases mode_of_resting hr with hm | hm | hm | hm <;> simp [hm, Mode.name] at ht ⊢
    exact h.begins hr (reclassifyWaiting_hostLaw (setAreaValues_accessLaw _ _ h.host.access hm)) _ _ _
  · exact h.replies _ _ _

theorem takeWriteRegion_closes (index mode : Byte) (base length : Half) (h : FrameOpen shield saved s) :
    Closes shield saved s.memory (takeWriteRegion index mode base length s) := by
  refine gated_closes _ _ _ h fun hr _ => ?_
  unfold regionTested
  split
  · split
    · exact h.replies _ _ _
    · split
      · exact h.replies _ _ _
      · rename_i i r _ _
        have written (i : Fin 8) : AccessLaw shield saved s (setRegion i r s) := h.host.access
        unfold regionTaken
        split
        · exact h.begins hr (reclassifyWaiting_hostLaw (written _)) _ _ _
        · exact h.begins hr (beginRecording_hostLaw (written _) (holdsNone_of_resting hr)) _ _ _
  · exact h.replies _ _ _

end Commands

end Sys2Proof.Machine
end

section
/-! SUPPORT. Commands that name an event which cannot occur in the present state (log 5, log 24). -/

namespace Sys2Proof.Machine

open Sys2Proof.Safety

section Absent
variable {s : State}

theorem exec_resetAssert_absent (h : s.power = .reset) : exec .resetAssert s = .next s := by
  simp only [exec, execResetAssert, h]

theorem exec_resetRelease_absent (h : s.power = .running) (j : BitVec 4) (a m u n : Bool) :
    exec (.resetRelease j a m u n) s = .next s := by
  simp only [exec, execResetRelease, h]

theorem exec_supplyLoss_absent (h : s.power = .unpowered) : exec .supplyLoss s = .next s := by
  simp only [exec, execSupplyLoss, h]

/-- R124: a cycle that is asserted is not asserted again. -/
theorem exec_arrive_absent (h : s.host.cycle = true) (addr : HalfAddr) (st : Strobes) (l u : Bool) (d : Half) :
    exec (.hostAccessArrive addr st l u d) s = .next s := by
  simp only [exec, execHostAccessArrive, h, if_true]

/-- R124, R137: an arrival that is not taken marks the cycle alone. -/
theorem exec_arrive_untaken (hc : s.host.cycle = false) (h : s.power ≠ .running ∨ s.host.access ≠ none)
    (addr : HalfAddr) (st : Strobes) (l u : Bool) (d : Half) :
    exec (.hostAccessArrive addr st l u d) s = .next { s with host := { s.host with cycle := true } } := by
  have untaken : s.power ≠ .running ∨ s.host.access.isSome = true := by
    rwa [Option.isSome_iff_ne_none]
  simp only [exec, execHostAccessArrive, hc, Bool.false_eq_true, if_false, untaken, if_true]
  rfl

theorem exec_hostCycleEnd_absent (h : s.host.cycle = false) : exec .hostCycleEnd s = .next s := by
  simp only [exec, execHostCycleEnd, h, Bool.false_eq_true, if_false]

theorem exec_forwardComplete_absent
    (h : s.power ≠ .running ∨ s.host.access = none ∨ s.port.busy.map PortBusy.who ≠ some .forward) :
    exec .forwardComplete s = .next s := by
  simp only [exec, execForwardComplete]
  split
  next b a hp hb ha =>
    have other : b.who ≠ .forward := by simpa [hp, hb, ha] using h
    rw [if_neg other]
  · rfl

theorem exec_holdTimerExpire_absent (h : s.power ≠ .running ∨ s.host.access = none) :
    exec .holdTimerExpire s = .next s := by
  simp only [exec, execHoldTimerExpire]
  split
  next a hp ha => simp [hp, ha] at h
  · rfl

theorem exec_engineAccessComplete_absent
    (h : s.power ≠ .running ∨ s.port.busy.map PortBusy.who ≠ some .engine) :
    exec .engineAccessComplete s = .next s := by
  simp only [exec, execEngineAccessComplete]
  split
  next b hp hb =>
    have other : b.who ≠ .engine := by simpa [hp, hb] using h
    rw [if_neg other]
  · rfl

theorem exec_linkReadComplete_absent (h : s.power ≠ .running ∨ s.port.busy.map PortBusy.who ≠ some .link) :
    exec .linkReadComplete s = .next s := by
  simp only [exec, execLinkReadComplete]
  split
  next b hp hb =>
    have other : b.who ≠ .link := by simpa [hp, hb] using h
    rw [if_neg other]
  · rfl

/-- R31: the engine makes a clear sweep in four of its steps. -/
theorem clearSweep_eq_none (harm : ∀ e, s.engine.mode ≠ .arming (.build e .sweep))
    (hcommit : ∀ e, s.engine.mode ≠ .committing e .sweep) (hdisarm : s.engine.mode ≠ .disarming .sweep)
    (hbreak : s.engine.mode ≠ .breaking .sweep) : clearSweep s = none := by
  cases hm : s.engine.mode with
  | arming step =>
    rcases step with got | ⟨epoch, _ | k | w⟩
    · simp only [clearSweep, hm]
    · exact absurd hm (harm epoch)
    · simp only [clearSweep, hm]
    · simp only [clearSweep, hm]
  | committing epoch step =>
    rcases step with _ | k | w
    · exact absurd hm (hcommit epoch)
    · simp only [clearSweep, hm]
    · simp only [clearSweep, hm]
  | disarming step =>
    rcases step with _ | w
    · exact absurd hm hdisarm
    · simp only [clearSweep, hm]
  | breaking step =>
    rcases step with _ | w
    · exact absurd hm hbreak
    · simp only [clearSweep, hm]
  | _ => simp only [clearSweep, hm]

theorem exec_clearSweepComplete_absent (h : s.power ≠ .running ∨ clearSweep s = none) :
    exec .clearSweepComplete s = .next s := by
  simp only [exec, execClearSweepComplete]
  rcases h with h | h
  · rw [if_neg h]
  · simp only [h, ite_self]

theorem exec_relabelSweepComplete_absent (h : s.power ≠ .running ∨ s.engine.mode ≠ .releasing .sweep) :
    exec .relabelSweepComplete s = .next s := by
  simp only [exec, execRelabelSweepComplete]
  rcases h with h | h
  · rw [if_neg h]
  · have none_runs : relabelSweep s = none := by
      unfold relabelSweep
      split
      · exact absurd ‹_› h
      · rfl
    simp only [none_runs, ite_self]

theorem exec_linkReadStatusDue_absent
    (h : s.power ≠ .running ∨ s.link.reader = none ∨ (∀ f ∈ s.link.frame, f.response ≠ none)) :
    exec .linkReadStatusDue s = .next s := by
  simp only [exec, execLinkReadStatusDue]
  split
  next f r hp hf hr =>
    have decided : f.response ≠ none := by simpa [hp, hf, hr] using h
    rw [if_neg (by simpa using decided)]
  · rfl

/-- R65, R186: while the part does not run the request lines and nSS are not sampled. -/
theorem exec_lines_absent (h : s.power ≠ .running) : exec .markReqEdge s = .next s ∧ exec .undoReqEdge s = .next s ∧
    (∀ line, exec (.requestLineFall line) s = .next s) ∧ exec .nssRiseAfterRelease s = .next s := by
  have off : ¬ (s.power = .running ∧ s.link.ignoring = true) := fun hp => h hp.1
  refine ⟨?_, ?_, fun line => ?_, ?_⟩
  · simp only [exec, execMarkReqEdge, if_pos (Or.inl h)]
  · simp only [exec, execUndoReqEdge, if_pos (Or.inl h)]
  · simp only [exec, execRequestLineFall, if_pos h]
  · simp only [exec, execNssRiseAfterRelease, if_neg off]

/-- R37, R186: a frame's command that the link does not hear changes nothing. -/
theorem exec_deaf {c : Instr} (h : listening s = false) (hc : crcByte c ≠ none) (hw : c.wellFormed = true) :
    exec c s = .next s := by
  have deaf : s.power ≠ .running ∨ s.link.ignoring = true := by
    by_cases hp : s.power = .running
    · exact .inr (by simpa [listening, hp] using h)
    · exact .inl hp
  cases c with
  | unknownCommand code next =>
    have unknown : code ∉ knownCodes := by simpa [Instr.wellFormed] using hw
    simp only [exec, execUnknownCommand, unknown, if_false, answerUnknown, h, Bool.false_eq_true]
  | status | fetchCause | clearCauses | setCauseLevel | setThreshold | readRecord | writeRegion | readRegion
  | setArea | setOptions | arm | disarm | mark | release | undo | commit | resume | readSlot | readHead =>
    exact congrArg Host.Outcome.next (takeFrame_deaf _ _ _ s deaf)
  | _ => exact absurd rfl hc

/-- Log 21: an UNKNOWN_COMMAND whose code names a command is refused. -/
theorem exec_unknownCommand_illFormed {code next : Byte}
    (h : (Instr.unknownCommand code next).wellFormed = false) :
    exec (.unknownCommand code next) s = .refused .illFormed := by
  have known : code ∈ knownCodes := by simpa [Instr.wellFormed] using h
  simp only [exec, execUnknownCommand, known, if_true]

/-- R37, R186: a link that does not listen sees no frame end. -/
theorem exec_frameEnd_deaf (h : listening s = false) :
    exec .linkShortFrame s = .next s ∧ exec .linkFrameCut s = .next s := by
  simp only [exec, execLinkShortFrame, execLinkFrameCut, h, Bool.false_eq_true, if_false, and_self]

end Absent

end Sys2Proof.Machine
end

section
/-! PROOFS. The invariants of every step over the memory port and the host's access (R135 to R140, R149, R151), and what
they say of the journaled writes that reach the memory (R138). -/

namespace Sys2Proof.Machine

open Sys2Proof.Safety

section Step
variable {shield saved : Prop} {s t : State} {c : Instr}

/-! ## A running part -/

/-- Every command of a running part but those of reset and supply is one event that keeps the laws. -/
theorem exec_closes (hc : movesPower c = false) (h : Closed shield saved s)
    (hstack : saved → s.engine.mode ≠ .off → s.engine.mode ≠ .broken → s.engine.stack ≠ [])
    (ht : exec c s = .next t) : Closes shield saved s.memory t := by
  have same : Closes shield saved s.memory s := h.closes
  cases c with
  | resetAssert => cases hc
  | resetRelease jsel a m u n => cases hc
  | supplyLoss => cases hc
  | hostAccessArrive addr st l u d =>
    cases ht
    split
    · exact same
    · split
      · exact h.stays (h.host.withHost (setCycle true s).host rfl) rfl rfl
      · rename_i hready
        have idle : s.host.access = none := by simpa using (not_or.1 hready).2
        exact arrive_closes addr st l u d h idle
  | hostCycleEnd =>
    cases ht
    split
    · exact endCycle_closes h
    · exact same
  | forwardComplete =>
    cases ht
    split
    · split
      · exact forwardDone_closes _ _ h ‹_› ‹_›
      · exact same
    · exact same
  | holdTimerExpire =>
    cases ht
    split
    · split
      · exact expireHold_closes h ‹_› ‹_›
      · exact same
    · exact same
  | engineAccessComplete =>
    cases ht
    split
    · split
      · exact advance_closes h ‹_› ‹_› hstack
      · exact same
    · exact same
  | clearSweepComplete =>
    cases ht
    split
    · split
      · exact h.settles (clearSweep_hostLaw h.host ‹_›) (.inl (wanted_of_clearSweep ‹_›))
      · exact same
    · exact same
  | relabelSweepComplete =>
    cases ht
    split
    · split
      · exact h.settles (relabelSweep_hostLaw h.host ‹_›) (.inl (wanted_of_relabelSweep ‹_›))
      · exact same
    · exact same
  | linkReadComplete =>
    cases ht
    split
    · split
      · exact readComplete_closes h ‹_› ‹_›
      · exact same
    · exact same
  | linkReadStatusDue =>
    cases ht
    split
    · split
      · exact statusDue_closes _ _ h ‹_›
      · exact same
    · exact same
  | markReqEdge =>
    cases ht
    split
    · exact same
    · dsimp only
      split
      · exact markEdge_closes (h.calm (s := setMarkLine true s) h.host rfl rfl)
      · exact h.stays (s := setMarkLine true s) h.host rfl rfl
  | undoReqEdge =>
    cases ht
    split
    · exact same
    · dsimp only
      split
      · exact undoEdge_closes (h.calm (s := setUndoLine true s) h.host rfl rfl)
      · exact h.stays (s := setUndoLine true s) h.host rfl rfl
  | linkShortFrame =>
    cases ht
    split
    · exact shortFrame_closes h ‹_›
    · exact same
  | linkFrameCut =>
    cases ht
    split
    · exact closeFrame_closes h ‹_›
    · exact same
  | unknownCommand code next =>
    simp only [exec, execUnknownCommand] at ht
    split at ht
    · cases ht
    · cases ht
      exact answerUnknown_closes code h
  | status crc =>
    cases ht
    exact takeFrame_closes _ _ _ h fun o ho => ho.replies _ _ _
  | fetchCause crc =>
    cases ht
    exact takeFrame_closes _ _ _ h fun o ho => takeFetch_closes ho
  | clearCauses mask crc =>
    cases ht
    exact takeFrame_closes _ _ _ h fun o ho => ho.answered (s := clearLatches mask o) ho.host rfl rfl _ _ _
  | setCauseLevel cause level crc =>
    cases ht
    exact takeFrame_closes _ _ _ h fun o ho => takeCauseLevel_closes cause level ho
  | setThreshold threshold crc =>
    cases ht
    exact takeFrame_closes _ _ _ h fun o ho => takeThreshold_closes threshold ho
  | readRecord crc =>
    cases ht
    exact takeFrame_closes _ _ _ h fun o ho =>
      ho.answered (s := { o with records := o.records.pop }) ho.host rfl rfl _ _ _
  | writeRegion index mode base length crc =>
    cases ht
    exact takeFrame_closes _ _ _ h fun o ho => takeWriteRegion_closes index mode base length ho
  | readRegion index crc =>
    cases ht
    exact takeFrame_closes _ _ _ h fun o ho => takeReadRegion_closes index ho
  | setArea base slots crc =>
    cases ht
    exact takeFrame_closes _ _ _ h fun o ho => takeSetArea_closes base slots ho
  | setOptions select holdLimit policy highMark enables crc =>
    cases ht
    exact takeFrame_closes _ _ _ h fun o ho => takeOptions_closes select holdLimit policy highMark enables ho
  | arm crc =>
    cases ht
    exact takeFrame_closes _ _ _ h fun o ho => takeArm_closes ho
  | disarm crc =>
    cases ht
    exact takeFrame_closes _ _ _ h fun o ho => takeDisarm_closes ho
  | mark label crc =>
    cases ht
    exact takeFrame_closes _ _ _ h fun o ho => takeMark_closes label ho
  | release crc =>
    cases ht
    exact takeFrame_closes _ _ _ h fun o ho => takeRelease_closes ho
  | undo option crc =>
    cases ht
    exact takeFrame_closes _ _ _ h fun o ho => takeUndo_closes option ho
  | commit crc =>
    cases ht
    exact takeFrame_closes _ _ _ h fun o ho => takeCommit_closes ho
  | resume option crc =>
    cases ht
    exact takeFrame_closes _ _ _ h fun o ho => takeResume_closes option ho
  | readSlot index crc =>
    cases ht
    exact takeFrame_closes _ _ _ h fun o ho => takeReadSlot_closes index ho
  | readHead copy crc =>
    cases ht
    exact takeFrame_closes _ _ _ h fun o ho => takeReadHead_closes copy ho
  | requestLineFall line =>
    cases ht
    split
    · exact same
    · cases line with
      | mark => exact h.stays (s := setMarkLine false s) h.host rfl rfl
      | undo => exact h.stays (s := setUndoLine false s) h.host rfl rfl
  | nssRiseAfterRelease =>
    cases ht
    split
    · rename_i hi
      exact nssRise_closes h hi.2
    · exact same

/-! ## A part that does not run -/

/-- R124, R137: without a running part a command marks the host's cycle and changes nothing else. -/
theorem exec_stopped (hp : s.power ≠ .running) (hc : movesPower c = false) (ht : exec c s = .next t) :
    t = { s with host := t.host } ∧ t.host.access = s.host.access := by
  have unchanged (h : exec c s = .next s) : t = { s with host := t.host } ∧ t.host.access = s.host.access := by
    cases h.symm.trans ht
    exact ⟨rfl, rfl⟩
  have silent : listening s = false := by simp [listening, hp]
  obtain ⟨mark, undo, fall, rise⟩ := exec_lines_absent hp
  obtain ⟨shortFrame, frameCut⟩ := exec_frameEnd_deaf silent
  cases c with
  | resetAssert => cases hc
  | resetRelease jsel a m u n => cases hc
  | supplyLoss => cases hc
  | hostAccessArrive addr st l u d =>
    cases hcycle : s.host.cycle with
    | true => exact unchanged (exec_arrive_absent hcycle addr st l u d)
    | false =>
      cases (exec_arrive_untaken hcycle (.inl hp) addr st l u d).symm.trans ht
      exact ⟨rfl, rfl⟩
  | hostCycleEnd =>
    cases hcycle : s.host.cycle with
    | false => exact unchanged (exec_hostCycleEnd_absent hcycle)
    | true =>
      simp only [exec, execHostCycleEnd, hcycle, if_true, Host.Outcome.next.injEq] at ht
      subst ht
      cases hpower : s.power with
      | running => exact absurd hpower hp
      | reset => exact ⟨rfl, rfl⟩
      | unpowered => exact ⟨rfl, rfl⟩
  | forwardComplete => exact unchanged (exec_forwardComplete_absent (.inl hp))
  | holdTimerExpire => exact unchanged (exec_holdTimerExpire_absent (.inl hp))
  | engineAccessComplete => exact unchanged (exec_engineAccessComplete_absent (.inl hp))
  | clearSweepComplete => exact unchanged (exec_clearSweepComplete_absent (.inl hp))
  | relabelSweepComplete => exact unchanged (exec_relabelSweepComplete_absent (.inl hp))
  | linkReadComplete => exact unchanged (exec_linkReadComplete_absent (.inl hp))
  | linkReadStatusDue => exact unchanged (exec_linkReadStatusDue_absent (.inl hp))
  | markReqEdge => exact unchanged mark
  | undoReqEdge => exact unchanged undo
  | requestLineFall line => exact unchanged (fall line)
  | nssRiseAfterRelease => exact unchanged rise
  | linkShortFrame => exact unchanged shortFrame
  | linkFrameCut => exact unchanged frameCut
  | unknownCommand code next =>
    cases hw : (Instr.unknownCommand code next).wellFormed with
    | true => exact unchanged (exec_deaf silent nofun hw)
    | false => cases (exec_unknownCommand_illFormed hw).symm.trans ht
  | status | fetchCause | clearCauses | setCauseLevel | setThreshold | readRecord | writeRegion | readRegion
  | setArea | setOptions | arm | disarm | mark | release | undo | commit | resume | readSlot | readHead =>
    exact unchanged (exec_deaf silent nofun rfl)

/-! ## Every step -/

/-- A part that does not run keeps what the access in progress waits for. -/
def Stopped (shield saved : Prop) (s : State) : Prop :=
  s.power ≠ .running ∧ (shield → HoldLaw s) ∧ (shield → saved → SaveLaw s)

/-- What a step leaves: a running part with the laws, its memory changed by a grant alone, or a part that does not
run, its memory as it was or its port idle. -/
def Steps (shield saved : Prop) (s t : State) : Prop :=
  Closes shield saved s.memory t ∨ (Stopped shield saved t ∧ (t.memory = s.memory ∨ t.port.busy = none))

theorem stopped_of_no_access (hp : s.power ≠ .running) (ha : s.host.access = none) : Stopped shield saved s :=
  ⟨hp, fun _ => by simp [HoldLaw, ha], fun _ _ => by simp [SaveLaw, ha]⟩

/-- R37, R107, R186: the part as a release leaves it. -/
theorem startStraps_closes (j : BitVec 4) (autoUndo m u n : Bool) :
    Closes shield saved s.memory (startStraps j autoUndo (releaseValues m u n s)) := by
  have link : LinkLaw (releaseValues m u n s) := ⟨nofun, rfl, nofun, (Bool.or_false n).symm, fun _ => rfl⟩
  have host (v : State) (frame : Framed (releaseValues m u n s) v) (ha : v.host.access = none)
      (hf : v.port.forward = none) (harea : SameArea v) : HostLaw shield saved (releaseValues m u n s) v := by
    obtain ⟨-, -, -, busy, -⟩ := id frame
    exact hostLaw_of_no_access frame ha hf (by rw [busy]; exact nofun) fun _ => harea
  have area : SameArea (releaseValues m u n s) := ⟨rfl, rfl⟩
  unfold startStraps
  split
  · exact Closed.closes (s := releaseValues m u n s)
      ⟨⟨rfl, link, nofun, host _ (.refl _) rfl rfl area⟩, rfl, fun _ => ⟨rfl, rfl, rfl⟩⟩
  · exact closes_of_idle (r := releaseValues m u n s) rfl link rfl rfl
      (host _ ⟨rfl, rfl, rfl, rfl, rfl⟩ rfl rfl ⟨rfl, rfl⟩)

/-- Every command keeps the laws, whether the part runs or not. -/
theorem exec_steps (h : Closed shield saved s ∨ Stopped shield saved s)
    (hstack : saved → s.engine.mode ≠ .off → s.engine.mode ≠ .broken → s.engine.stack ≠ [])
    (ht : exec c s = .next t) : Steps shield saved s t := by
  have holds : (shield → HoldLaw s) ∧ (shield → saved → SaveLaw s) := by
    rcases h with h | ⟨-, h⟩
    · obtain ⟨⟨-, -, hold, serves⟩, -⟩ := h.host
      exact ⟨fun hsh => (hold hsh).2, serves⟩
    · exact h
  cases hc : movesPower c with
  | false =>
    rcases h with h | ⟨hp, -⟩
    · exact .inl (exec_closes hc h hstack ht)
    · obtain ⟨ht, access⟩ := exec_stopped hp hc ht
      generalize t.host = host at ht access
      subst ht
      obtain ⟨hold, serves⟩ := holds
      simp only [HoldLaw, SaveLaw, ← access] at hold serves
      exact .inr ⟨⟨hp, hold, serves⟩, .inl rfl⟩
  | true =>
    rcases exec_power hc ht with rfl | ⟨-, rfl⟩ | ⟨-, rfl⟩ | ⟨j, a, m, u, n, rfl⟩
    · rcases h with h | h
      · exact .inl h.closes
      · exact .inr ⟨h, .inl rfl⟩
    · obtain ⟨access, -⟩ := hostInReset_fields s.host
      have ended : (enterReset s).host.access = none := by simp [enterReset, access]
      exact .inr ⟨stopped_of_no_access nofun ended, .inr (by simp [enterReset, Port.idle])⟩
    · have cut : Stopped shield saved { cutAccess s with power := .unpowered } := by
        refine ⟨nofun, ?_⟩
        simpa only [HoldLaw, SaveLaw, cutAccess_frame] using holds
      exact .inr ⟨cut, .inr (by simp [Port.idle])⟩
    · exact .inl (startStraps_closes j a m u n)

/-- The base lies on the stack outside OFF and BROKEN. -/
theorem stack_ne_nil (h : StackLaws s) (hoff : s.engine.mode ≠ .off) (hbroken : s.engine.mode ≠ .broken) :
    s.engine.stack ≠ [] := by
  obtain ⟨-, armed, -⟩ := h
  obtain ⟨base, -⟩ := armed ⟨hoff, hbroken⟩
  intro hnil
  simp [hnil] at base

theorem step_steps (h : Closed shield saved s ∨ Stopped shield saved s)
    (hstack : saved → s.engine.mode ≠ .off → s.engine.mode ≠ .broken → s.engine.stack ≠ [])
    (ht : step s = .next t) : Steps shield saved s t := by
  rcases step_cases ht with rfl | ⟨c, rest, ht⟩
  · rcases h with h | h
    · exact .inl h.closes
    · exact .inr ⟨h, .inl rfl⟩
  · refine exec_steps (s := { s with pending := rest }) (h.imp (fun h => ?_) id) hstack ht
    exact h.calm (s := { s with pending := rest }) h.host rfl rfl

/-! ## The laws of the model -/

theorem closed_or_stopped (hport : PortLaw s) (harea : shield → SameArea s) (hshield : shield → ShieldLaw s)
    (hsaved : shield → saved → SavedLaw s) : Closed shield saved s ∨ Stopped shield saved s := by
  have hold (hs : shield) : HoldLaw s := (hshield hs).1
  have serves (hs : shield) (hv : saved) : SaveLaw s := (saveServes_iff s).1 (hsaved hs hv).1
  by_cases hp : s.power = .running
  · obtain ⟨⟨hrun, link, engine, ⟨⟨frame, tied, -⟩, -⟩⟩, asked, left⟩ := (portLaw_iff hp).1 hport
    exact .inl ⟨⟨hrun, link, engine, ⟨⟨frame, tied, fun hs => ⟨harea hs, hold hs⟩, serves⟩,
      fun hs => (hshield hs).2 hp, fun hs hv => (hsaved hs hv).2 hp⟩⟩, asked, left⟩
  · exact .inr ⟨hp, hold, serves⟩

theorem Steps.portLaw (h : Steps False False s t) : PortLaw t := by
  rcases h with h | ⟨⟨hp, -⟩, -⟩
  · exact (portLaw_iff h.closed.running).2 h.closed
  · exact fun hrun => absurd hrun hp

theorem Steps.shieldLaw (h : Steps True saved s t) : ShieldLaw t := by
  rcases h with h | ⟨⟨hp, hold, -⟩, -⟩
  · obtain ⟨⟨-, -, hold, -⟩, outside, -⟩ := h.closed.host
    exact ⟨(hold trivial).2, fun _ => outside trivial⟩
  · exact ⟨hold trivial, fun hrun => absurd hrun hp⟩

theorem Steps.savedLaw (h : Steps True True s t) : SavedLaw t := by
  rcases h with h | ⟨⟨hp, -, serves⟩, -⟩
  · obtain ⟨⟨-, -, -, serves⟩, -, covered⟩ := h.closed.host
    exact ⟨(saveServes_iff t).2 (serves trivial trivial), fun _ => covered trivial trivial⟩
  · exact ⟨(saveServes_iff t).2 (serves trivial trivial), fun hrun => absurd hrun hp⟩

theorem step_keeps_saved (hport : PortLaw s) (hblock : BlockLaws s) (hstack : StackLaws s)
    (hshield : ShieldLaw s) (hsaved : SavedLaw s) (ht : step s = .next t) : Steps True True s t := by
  obtain ⟨-, -, base, slots, -⟩ := hblock
  exact step_steps (closed_or_stopped hport (fun _ => ⟨base, slots⟩) (fun _ => hshield) fun _ _ => hsaved)
    (fun _ => stack_ne_nil hstack) ht

/-- R138, R149: a host write that a grant brings to the memory waited there, and was saved. -/
theorem level_of_hostWrite {u : State} {a : Nat} (hu : Open True True u) (hm : MemoryForm u)
    (hw : hostWriteUnderWay (grant u) = true) (ha : Memory.read (grant u).memory a ≠ Memory.read u.memory a)
    (hoff : u.engine.mode ≠ .off) (hbroken : u.engine.mode ≠ .broken)
    (hj : journaled u (BitVec.ofNat 19 (a / 2)) = true) :
    TouchMap.level u.touch (a / 32) = u.engine.stack.length := by
  rcases grant_cases u with ⟨-, hg⟩ | ⟨-, -, -, -, hg⟩ | ⟨q, x, hb, hx, hg⟩
  · exact absurd (by rw [hg]) ha
  · exact absurd (by rw [hg]) ha
  · have way := writeUnderWay_of_grant hm ha
    rw [hg] at hw way
    simp only [hostWriteUnderWay, grantTo, Bool.and_eq_true, beq_iff_eq] at hw
    obtain ⟨rfl, hdata⟩ := hw
    simp only [writeUnderWay, grantTo, Bool.and_eq_true, beq_iff_eq] at way
    obtain ⟨-, byte⟩ := way
    have waits : waitingWrite u = some x.addr := by
      simp only [waitingWrite, show u.port.forward = some x from hx, hdata, if_true]
    have addr : BitVec.ofNat 19 (a / 2) = x.addr := by rw [byte, BitVec.ofNat_toNat, BitVec.setWidth_eq]
    obtain ⟨-, -, covered⟩ := hu.host
    have covered := covered trivial trivial hoff hbroken
    rw [waits, Option.all_some, ← addr, hj, addr] at covered
    simp only [Bool.not_true, Bool.false_or, Bool.and_eq_true, beq_iff_eq, granuleOf_toNat, ← byte] at covered
    obtain ⟨-, level⟩ := covered
    rw [← level, Nat.div_div_eq_div_mul]

end Step

end Sys2Proof.Machine

open Sys2Proof Sys2Proof.Machine Sys2Proof.Safety

/-- Settles O13: each command is one event whose blocks move by the laws and whose grant brings the port's back. -/
theorem stepKeepsPort : Obligations.StepKeepsPort :=
  fun _ _ hport ht => (step_steps (closed_or_stopped hport nofun nofun nofun) nofun ht).portLaw

/-- Settles O14: the same induction with the parts that R151 and R138 need. -/
theorem stepKeepsWaitingWritesSafe : Obligations.StepKeepsWaitingWritesSafe := by
  constructor
  · rintro s t hport ⟨-, -, base, slots, -⟩ hshield ht
    exact (step_steps (saved := False)
      (closed_or_stopped hport (fun _ => ⟨base, slots⟩) (fun _ => hshield) fun _ => nofun) nofun ht).shieldLaw
  · exact fun s t hport hblock hstack hshield hsaved ht =>
      (step_keeps_saved hport hblock hstack hshield hsaved ht).savedLaw

/-- Settles O17: memory changes at a grant, and a host write that is granted waited saved. -/
theorem journaledWritesReachMemorySaved : Obligations.JournaledWritesReachMemorySaved := by
  intro s t a hport hblock hstack hshield hsaved hm ht hw ha hoff hbroken hj
  rcases step_keeps_saved hport hblock hstack hshield hsaved ht with ⟨u, hu, -, memory, rfl⟩ | ⟨-, same | idle⟩
  · rw [← memory] at ha
    have hm : MemoryForm u := by
      rw [MemoryForm, memory]
      exact hm
    obtain ⟨-, engine, touch, regions, -⟩ := grant_frame u
    rw [engine] at hoff hbroken ⊢
    rw [touch]
    refine level_of_hostWrite hu hm hw ha hoff hbroken ?_
    rwa [journaled, engine, regions] at hj
  · exact absurd (by rw [same]) ha
  · simp [hostWriteUnderWay, idle] at hw
end

section
/-! PROOFS. The memory port's grant (R135 to R140, R157) and the end of the link reader's series (R183 to R185). -/

namespace Sys2Proof.Machine

open Sys2Proof.Safety

/-! ## The grant -/

/-- An event closes with the level causes renewed, the engine's request and the grant. -/
theorem settle_eq_grant (s : State) : settle s = grant { s with
    causes := { s.causes with latches := s.causes.latches ||| heldLatches s }.follow
    port := { s.port with
      engine := (if s.port.busy.map PortBusy.who = some .engine then none else s.engine.wanted) } } := by
  have request : (if s.port.servesEngine then none else s.engine.wanted)
      = if s.port.busy.map PortBusy.who = some .engine then none else s.engine.wanted := by
    simp only [servesEngine_iff]
  rw [← request]
  rfl

theorem grant_busy {s : State} (h : s.port.busy ≠ none) : grant s = s := by
  unfold grant
  split
  · rfl
  · exact absurd ‹_› h

/-- R140: the first waiting request of the rotation is granted. -/
theorem grant_next {s : State} {q : Requester} {x : MemAccess} (hb : s.port.busy = none)
    (hq : s.port.next = some q) (hx : s.port.waiting q = some x) : grant s = grantTo q x s := by
  simp only [grant, hb, hq, hx]

/-- A granted request leaves its place, and the other two stand. -/
theorem grantTo_eq (q : Requester) (x : MemAccess) (s : State) : grantTo q x s = { s with
    memory := performAccess s.memory x
    port := { s.port with
      busy := some { who := q, access := x, seen := readHalf s.memory x.addr, discard := false }
      forward := if q = .forward then none else s.port.forward
      engine := if q = .engine then none else s.port.engine
      link := if q = .link then none else s.port.link }
    host := if q = .forward then
        { s.host with access := s.host.access.map (fun a => { a with stage := .granted, timer := none }) }
      else s.host } := by
  cases q <;> rfl

/-! ## The link reader -/

theorem linkReadCompletes : Claims.LinkReadCompletes := by
  intro s b hp hb hw
  have completes : exec .linkReadComplete s
      = .next (grant (if b.discard then portFreed .link s else seriesRead b.seen (portFreed .link s))) := by
    simp only [exec, execLinkReadComplete, hp, hb, hw, if_true]
    rfl
  dsimp only
  rw [completes]
  refine ⟨fun hd => by rw [if_pos hd], fun r hd hr => ?_⟩
  rw [hd, if_neg Bool.false_ne_true]
  have reader : (portFreed .link s).link.reader = some r := hr
  simp only [seriesRead, reader, readerRequest, List.length_append, List.length_singleton]
  rfl

theorem linkReadStatusDue : Claims.LinkReadStatusDue := by
  intro s f r hp hf hn hr
  simp only [exec, execLinkReadStatusDue, hp, hf, hn, hr, Option.isNone_none, if_true, statusDue, endSeries_eq]
  rfl

end Sys2Proof.Machine

open Sys2Proof Sys2Proof.Machine Sys2Proof.Safety

/-- Settles O18: the model's rotation is the statement's, and a grant's write is read back byte by byte. -/
theorem portGrantsInRotation : Obligations.PortGrantsInRotation := by
  refine ⟨settle_eq_grant, fun s => grant_busy, fun s _ => grant_none, fun s q x hb => ?_⟩
  intro asks order hq hx
  have waits : s.port.waiting = asks := by
    funext r
    cases r <;> rfl
  have next : s.port.next = some q := by
    have rotates : rotation s.port.last = order := by
      simp only [order]
      cases s.port.last <;> rfl
    rw [Port.next, rotates, waits]
    exact hq
  have granted : grant s = grantTo q x s := grant_next hb next ((congrFun waits q).trans hx)
  dsimp only
  rw [granted]
  refine ⟨grantTo_eq q x s, fun hm a => ?_⟩
  have bytes : (grantTo q x s).memory = performAccess s.memory x := rfl
  rw [bytes]
  cases hd : x.data with
  | none => simp only [performAccess, hd]
  | some v => exact read_performAccess s.memory hm x v hd a

/-- Settles O48: each completion joins its series, and the status byte ends it. -/
theorem linkReaderEnds : Obligations.LinkReaderEnds := ⟨linkReadCompletes, linkReadStatusDue⟩
end

section
/-! PROOFS. The host bus: the classification of an access (R127 to R129, R144), arrivals (R124 to R136), the end of a
cycle (R125, R137) and of a hold timer (R134, R135). -/

namespace Sys2Proof.Machine

open Sys2Proof.Safety

/-! ## Classification -/

theorem contains_iff (r : Region) (a : Nat) : r.contains a = true ↔
    r.mode ≠ .disabled ∧ r.base * 1024 ≤ a ∧ a < (r.base + r.length) * 1024 := by
  simp [Region.contains]

/-- R144: the entry that decides is the lowest-indexed one that holds the address. -/
theorem decisive_eq_some {entries : Vector Region 8} {a : Nat} {i : Fin 8} (hi : (entries.get i).contains a = true)
    (below : ∀ j < i, (entries.get j).contains a = false) : decisive entries a = some i := by
  rw [decisive, List.find?_eq_some_iff_getElem]
  refine ⟨hi, i.val, by simp, by simp, fun j hj => ?_⟩
  simp [below ⟨j, by omega⟩ hj]

theorem decisive_eq_none {entries : Vector Region 8} {a : Nat} (h : ∀ i, (entries.get i).contains a = false) :
    decisive entries a = none := by
  simp [decisive, h]

theorem inArea_iff (base slots a : Nat) : inArea base slots a = true ↔
    slots ≠ 0 ∧ base * 1024 ≤ a ∧ a < base * 1024 + 128 + 44 * slots := by
  rw [inArea, areaBytes, decide_eq_true_iff, Nat.add_assoc]

/-- R127: past the head phase and the area the decisive entry treats the access. -/
theorem classify_by_entries {s : State} {a : HalfAddr} {d : Direction} (hh : s.engine.mode.headPhase = false)
    (hout : s.engine.mode = .off ∨ inArea s.regions.areaBase s.regions.areaSlots (2 * a.toNat) = false) :
    (∀ i, decisive s.regions.entries (2 * a.toNat) = some i →
      classify s a d = regionTreatment s.engine.mode.name i (s.regions.entries.get i).mode d) ∧
    (decisive s.regions.entries (2 * a.toNat) = none → classify s a d = .forward none) := by
  have skipped : ¬ (s.engine.mode ≠ .off ∧ inArea s.regions.areaBase s.regions.areaSlots (2 * a.toNat) = true) := by
    rintro ⟨hoff, hin⟩
    rcases hout with h | h
    · exact hoff h
    · simp [h] at hin
  constructor
  · intro i hi
    simp only [classify, hh, Bool.false_eq_true, if_false, if_neg skipped, hi]
  · intro hnone
    simp only [classify, hh, Bool.false_eq_true, if_false, if_neg skipped, hnone]

theorem classificationOrder : Claims.ClassificationOrder := by
  intro s a d
  dsimp only
  refine ⟨fun hh => ?_, fun hh hoff harea => ?_, fun hh hout => ?_⟩
  · simp only [classify, hh, if_true]
  · have inside := (inArea_iff _ _ _).2 harea
    simp only [classify, hh, Bool.false_eq_true, if_false, ne_eq, hoff, not_false_eq_true, inside, and_self, if_true]
    cases d <;> rfl
  · rw [← inArea_iff, Bool.not_eq_true] at hout
    obtain ⟨decided, undecided⟩ := classify_by_entries (d := d) hh hout
    simp only [← contains_iff, Bool.not_eq_true]
    exact ⟨fun i hi below => decided i (decisive_eq_some hi below), fun h => undecided (decisive_eq_none h)⟩

theorem guardAndWatchTreatment : Claims.GuardAndWatchTreatment :=
  fun _ _ => ⟨rfl, rfl, rfl, rfl, rfl, rfl⟩

theorem journaledTreatment_holds : Claims.JournaledTreatment := by
  intro n i
  cases n <;> exact ⟨rfl, rfl⟩

/-! ## Arrivals -/

/-- R127: an arrival that the port takes is classified in the state that it has left. -/
theorem exec_arrive_classified {s : State} {addr : HalfAddr} {dir : Direction} {lower upper : Bool} {data : Half}
    (hr : Ready s) (hl : (lower || upper) = true) :
    exec (.hostAccessArrive addr (strobeOf dir) lower upper data) s = .next (settle (treat (classify s addr dir)
      (arrivedAccess addr dir { lower := lower, upper := upper } data)
      (inProgress (arrivedAccess addr dir { lower := lower, upper := upper } data) s))) := by
  cases dir with
  | write => exact exec_arrive_write hr hl
  | read =>
    obtain ⟨hrun, hcycle, hidle⟩ := hr
    simp only [strobeOf, exec, execHostAccessArrive, hcycle, hrun, hidle, arrive, hl]
    rfl

theorem handRecord_eq_recorded (a : HostAccess) (data : Half) (i : Fin 9) (o : RecordOutcome) (s : State) :
    handRecord a data i o s = recorded a data i o s := rfl

theorem answerRefused_eq_refused (a : HostAccess) (s : State) : answerRefused a s = refused a s := by
  simp [answerRefused, answer, refused]

/-! ## Hold timers and cycles -/

theorem timerRuns_iff (a : HostAccess) : timerRuns a = true ↔ ∃ limit, a.timer = some limit ∧ limit ≠ 0#8 := by
  unfold timerRuns
  cases a.timer <;> simp

/-- R135: the end of the access that a stored save waited for ends the save. -/
theorem savingServed_eq (s : State) :
    savingServed s = if saveStored s.engine.mode then enterActive s else s := by
  unfold savingServed saveStored
  cases s.engine.mode <;> simp

theorem expireHold_eq (a : HostAccess) (s : State) :
    let ended := refused a (raise .holdExpired { s with port := { s.port with forward := none } })
    expireHold a s = if saveStored s.engine.mode then enterActive ended else ended := by
  dsimp only
  rw [expireHold, answerRefused_eq_refused, savingServed_eq]
  rfl

theorem unclassifiedArrivals : Claims.UnclassifiedArrivals := by
  rintro s addr data ⟨hrun, hcycle, hidle⟩
  have taken (st : Strobes) (l u : Bool) :
      exec (.hostAccessArrive addr st l u data) s = .next (arrive addr st l u data (setCycle true s)) := by
    simp only [exec, execHostAccessArrive, hcycle, hrun, hidle]
    rfl
  refine ⟨taken .read false false, taken .write false false, fun lower upper => ?_⟩
  refine ⟨(lower || upper) || Config.bothStrobesNoLaneRefused s.freeCount, Config.bothStrobesData s.freeCount,
    s.freeCount + 1, taken .both lower upper, fun h => by rw [h, Bool.true_or]⟩

theorem hostCycleEndCompletes : Claims.HostCycleEndCompletes := by
  intro s hc
  have ends : exec .hostCycleEnd s = .next { s with host := endCycle s.host s.power } := by
    simp only [exec, execHostCycleEnd, hc, if_true]
  rw [ends]
  refine ⟨fun a hp ha => ?_, fun hp ha => ?_, fun hp => ?_, fun hp => ?_⟩
  · simp only [endCycle, hp, ha]
  · simp only [endCycle, hp, ha]
  · simp only [endCycle, hp]
  · simp only [endCycle, hp]

end Sys2Proof.Machine

open Sys2Proof Sys2Proof.Machine Sys2Proof.Safety

/-- Settles O23: the head phase, then the area, then the lowest-indexed entry that holds the address. -/
theorem classification : Obligations.Classification :=
  ⟨classificationOrder, guardAndWatchTreatment, journaledTreatment_holds⟩

/-- Settles O24: one case per treatment of the classified arrival. -/
theorem classifiedArrivals : Obligations.ClassifiedArrivals := by
  intro s addr dir lower upper data hr hl
  dsimp only
  rw [exec_arrive_classified hr hl]
  cases classify s addr dir with
  | forward watch => rfl
  | hold => rfl
  | lookup => exact ⟨_, rfl⟩
  | refuse record =>
    cases record with
    | none => exact congrArg (fun t => Host.Outcome.next (settle t)) (answerRefused_eq_refused _ _)
    | some i =>
      rw [treat, refuseAccess, handRecord_eq_recorded, answerRefused_eq_refused]
      rfl

/-- Settles O27: a running timer of a limit other than 0 refuses, and no other timer does anything. -/
theorem holdTimerExpires : Obligations.HoldTimerExpires := by
  intro s a hp ha
  have expires : exec .holdTimerExpire s = .next (if timerRuns a then settle (expireHold a s) else s) := by
    simp only [exec, execHoldTimerExpire, hp, ha]
  rw [expires]
  refine ⟨fun limit ht hlimit => ?_, fun h => ?_⟩
  · rw [if_pos ((timerRuns_iff a).2 ⟨limit, ht, hlimit⟩), expireHold_eq]
  · have stands : ¬ timerRuns a = true := by
      rw [timerRuns_iff]
      rintro ⟨limit, ht, hlimit⟩
      rcases h with h | h <;> simp [h] at ht
      exact hlimit ht.symm
    rw [if_neg stands]

/-- Settles O22: no lane or both strobes end an arrival at once, and the end of a cycle goes by the power condition. -/
theorem unclassifiedArrivalsAndCycleEnd : Obligations.UnclassifiedArrivalsAndCycleEnd :=
  ⟨unclassifiedArrivals, hostCycleEndCompletes⟩
end

section
/-! SUPPORT. The queue of commands: every operation of the block leaves it alone, and so does every command. -/

namespace Sys2Proof.Machine

open Sys2Proof.Safety

/-! ## The engine -/

section Engine
variable (s : State)

@[simp] theorem beginMark_pending (label : Half) : (beginMark label s).pending = s.pending := by
  simp [beginMark]

@[simp] theorem refuseMarkRequest_pending (t : MarkTest) : (refuseMarkRequest t s).pending = s.pending := by
  cases t <;> simp [refuseMarkRequest]

@[simp] theorem undoNormal_pending : (undoNormal s).pending = s.pending := rfl

@[simp] theorem beginUndo_pending (drop : Bool) : (beginUndo drop s).pending = s.pending := by
  unfold beginUndo
  dsimp only
  split <;> simp

@[simp] theorem undoAborted_pending : (undoAborted s).pending = s.pending := by
  simp [undoAborted]

@[simp] theorem undoBad_pending (u : UndoWork) : (undoBad u s).pending = s.pending := by
  unfold undoBad
  dsimp only
  split <;> simp

@[simp] theorem fromBroken_pending : (fromBroken s).pending = s.pending := by
  unfold fromBroken
  split <;> simp

@[simp] theorem buildEnd_pending (epoch : Half) (w : HeadWrite) : (buildEnd epoch w s).pending = s.pending := by
  simp [buildEnd]

@[simp] theorem savingServed_pending : (savingServed s).pending = s.pending := by
  unfold savingServed
  split
  · split <;> simp
  · rfl

@[simp] theorem saveWritten_pending : (saveWritten s).pending = s.pending := by
  unfold saveWritten
  split
  · simp
  · split <;> simp

@[simp] theorem setUndoStep_pending (u : UndoWork) (step : UndoStep) : (setUndoStep u step s).pending = s.pending := rfl

/-! ## One access of each operation -/

@[simp] theorem advanceArming_pending (v : Half) (step : ArmStep) : (advanceArming v step s).pending = s.pending := by
  unfold advanceArming
  split
  · dsimp only
    split <;> simp [armChoose]
  · rfl
  · simp
  · split <;> simp

@[simp] theorem advanceCommitting_pending (epoch : Half) (step : BuildStep) :
    (advanceCommitting epoch step s).pending = s.pending := by
  unfold advanceCommitting
  split
  · rfl
  · simp
  · split <;> simp

@[simp] theorem advanceDisarming_pending (step : CloseStep) : (advanceDisarming step s).pending = s.pending := by
  unfold advanceDisarming
  split
  · rfl
  · split <;> simp

@[simp] theorem advanceRecording_pending (w : HeadWrite) : (advanceRecording w s).pending = s.pending := by
  unfold advanceRecording
  split <;> simp

@[simp] theorem advanceBreaking_pending (step : CloseStep) : (advanceBreaking step s).pending = s.pending := by
  unfold advanceBreaking
  split
  · rfl
  · split <;> simp

@[simp] theorem advanceSaving_pending (v : Half) (w : SaveWork) : (advanceSaving v w s).pending = s.pending := by
  unfold advanceSaving
  dsimp only
  split <;> simp

@[simp] theorem advanceMarking_pending (label : Half) (done : Nat) :
    (advanceMarking label done s).pending = s.pending := by
  unfold advanceMarking
  split <;> simp

@[simp] theorem advanceReleasing_pending (step : ReleaseStep) : (advanceReleasing step s).pending = s.pending := by
  cases step <;> simp [advanceReleasing]

/-! ### UNDOING -/

@[simp] theorem judgeWalk_pending (u : UndoWork) (h : SlotHeader) : (judgeWalk u h s).pending = s.pending := by
  unfold judgeWalk
  split
  · split
    · simp
    · split <;> simp
  · simp

@[simp] theorem judgeMarker_pending (u : UndoWork) (h : SlotHeader) : (judgeMarker u h s).pending = s.pending := by
  unfold judgeMarker
  split <;> simp

@[simp] theorem removeSave_pending (h : SlotHeader) : (removeSave h s).pending = s.pending := rfl

@[simp] theorem removeReleased_pending : (removeReleased s).pending = s.pending := rfl

@[simp] theorem removeMarker_pending : (removeMarker s).pending = s.pending := rfl

@[simp] theorem afterRemoval_pending (u : UndoWork) : (afterRemoval u s).pending = s.pending := by
  unfold afterRemoval
  split
  · simp
  · split
    · split <;> simp
    · simp

@[simp] theorem voidDone_pending (u : UndoWork) (h : SlotHeader) : (voidDone u h s).pending = s.pending := by
  unfold voidDone
  split
  · split <;> simp
  · split <;> simp

@[simp] theorem advanceUndoing_pending (v : Half) (u : UndoWork) : (advanceUndoing v u s).pending = s.pending := by
  unfold advanceUndoing
  split
  · dsimp only
    split
    · simp
    · split <;> simp
  · dsimp only
    split
    · simp
    · split <;> simp
  · split <;> simp
  · simp

/-! ### SCANNING -/

@[simp] theorem restoreHead_pending (ws : List Half) : (restoreHead ws s).pending = s.pending := rfl

@[simp] theorem resumeOff_pending (o : ResumeOutcome) : (resumeOff o s).pending = s.pending := by
  simp [resumeOff]

@[simp] theorem takeHead_pending (autoUndo : Bool) (level : Nat) (ws : List Half) :
    (takeHead autoUndo level ws s).pending = s.pending := by
  unfold takeHead
  split <;> simp

@[simp] theorem headPhaseEnd_pending (autoUndo : Bool) (level : Nat) (got : List Half) :
    (headPhaseEnd autoUndo level got s).pending = s.pending := by
  unfold headPhaseEnd
  dsimp only
  split <;> simp

@[simp] theorem resumeEnd_pending (autoUndo : Bool) (reason : StopReason) :
    (resumeEnd autoUndo reason s).pending = s.pending := by
  have merged (x : State) : (if x.engine.undoPending then raise .requestMerged (setUndoPending false x) else x).pending
      = x.pending := by
    split <;> simp
  have reaches (x : State) :
      (if atTarget x then enterActive (undoNormal x) else resolveHeld x).pending = x.pending := by
    split <;> simp
  cases autoUndo with
  | false => simp [resumeEnd]
  | true => exact (reaches _).trans (merged _)

@[simp] theorem scanStop_pending (autoUndo : Bool) (level : Nat) (reason : StopReason) :
    (scanStop autoUndo level reason s).pending = s.pending := by
  unfold scanStop
  split <;> simp

@[simp] theorem scanNext_pending (autoUndo : Bool) (level : Nat) :
    (scanNext autoUndo level s).pending = s.pending := by
  unfold scanNext
  split <;> simp

@[simp] theorem acceptSave_pending (level : Nat) (h : SlotHeader) : (acceptSave level h s).pending = s.pending := by
  unfold acceptSave
  dsimp only
  split <;> simp

@[simp] theorem scanMarker_pending (autoUndo : Bool) (level : Nat) (h : SlotHeader) :
    (scanMarker autoUndo level h s).pending = s.pending := by
  unfold scanMarker
  split <;> simp

@[simp] theorem scanReleased_pending (autoUndo : Bool) (level : Nat) (h : SlotHeader) :
    (scanReleased autoUndo level h s).pending = s.pending := by
  unfold scanReleased
  split <;> simp

@[simp] theorem scanHeader_pending (autoUndo : Bool) (level : Nat) (h : SlotHeader) :
    (scanHeader autoUndo level h s).pending = s.pending := by
  unfold scanHeader
  simp only [apply_ite State.pending, scanStop_pending, setMode_pending, scanMarker_pending, scanReleased_pending,
    ite_self]

@[simp] theorem scanKind_pending (autoUndo : Bool) (level : Nat) (v : Half) :
    (scanKind autoUndo level v s).pending = s.pending := by
  unfold scanKind
  simp only [apply_ite State.pending, scanStop_pending, setMode_pending, ite_self]

@[simp] theorem scanData_pending (autoUndo : Bool) (level : Nat) (h : SlotHeader) (data : List Half) :
    (scanData autoUndo level h data s).pending = s.pending := by
  unfold scanData
  split <;> simp

@[simp] theorem advanceScanning_pending (v : Half) (autoUndo : Bool) (level : Nat) (step : ScanStep) :
    (advanceScanning v autoUndo level step s).pending = s.pending := by
  unfold advanceScanning
  split
  · dsimp only
    split <;> simp
  · simp
  · dsimp only
    split <;> simp
  · dsimp only
    split <;> simp
  · split <;> simp

@[simp] theorem advance_pending (v : Half) : (advance v s).pending = s.pending := by
  unfold advance
  split <;> simp

/-! ### Sweeps -/

theorem clearSweep_pending {s t : State} (h : clearSweep s = some t) : t.pending = s.pending := by
  cases hm : s.engine.mode with
  | arming step =>
    rcases step with got | ⟨epoch, _ | k | w⟩ <;> simp only [clearSweep, hm, reduceCtorEq] at h
    cases h
    rfl
  | committing epoch step =>
    rcases step with _ | k | w <;> simp only [clearSweep, hm, reduceCtorEq] at h
    cases h
    rfl
  | disarming step =>
    rcases step with _ | w <;> simp only [clearSweep, hm, reduceCtorEq] at h
    cases h
    rfl
  | breaking step =>
    rcases step with _ | w <;> simp only [clearSweep, hm, reduceCtorEq] at h
    cases h
    simp
  | _ => simp only [clearSweep, hm, reduceCtorEq] at h

theorem relabelSweep_pending {s t : State} (h : relabelSweep s = some t) : t.pending = s.pending := by
  unfold relabelSweep at h
  split at h
  · cases h
    rfl
  · cases h

/-! ## Host bus, request lines, reset -/

@[simp] theorem watchRecord_pending (a : HostAccess) (d : Half) : (watchRecord a d s).pending = s.pending := by
  unfold watchRecord
  split <;> simp

@[simp] theorem forwardDone_pending (a : HostAccess) (v : Half) : (forwardDone a v s).pending = s.pending := by
  simp [forwardDone, answer]

@[simp] theorem expireHold_pending (a : HostAccess) : (expireHold a s).pending = s.pending := by
  simp [expireHold]

@[simp] theorem arrive_pending (addr : HalfAddr) (st : Strobes) (l u : Bool) (d : Half) :
    (arrive addr st l u d s).pending = s.pending := by
  have classified (a : HostAccess) : (arriveClassified a s).pending = s.pending := by simp [arriveClassified]
  cases st with
  | both => rfl
  | read =>
    simp only [arrive]
    split
    · exact classified _
    · rfl
  | write =>
    simp only [arrive]
    split
    · exact classified _
    · rfl

@[simp] theorem markRequest_pending : (markRequest s).pending = s.pending := by
  unfold markRequest
  split <;> simp

@[simp] theorem markEdge_pending : (markEdge s).pending = s.pending := by
  unfold markEdge
  simp only [apply_ite State.pending, markRequest_pending, raise_pending, setMarkPending_pending, ite_self]

@[simp] theorem undoEdge_pending : (undoEdge s).pending = s.pending := by
  unfold undoEdge
  simp only [apply_ite State.pending, beginUndo_pending, raise_pending, setUndoPending_pending, ite_self]

@[simp] theorem enterReset_pending : (enterReset s).pending = s.pending := by
  simp [enterReset]

@[simp] theorem startStraps_pending (j : BitVec 4) (autoUndo : Bool) :
    (startStraps j autoUndo s).pending = s.pending := by
  unfold startStraps
  split <;> simp

/-! ## The link -/

@[simp] theorem openFrame_pending : (openFrame s).pending = s.pending := by
  simp [openFrame_eq]

@[simp] theorem closeFrame_pending : (closeFrame s).pending = s.pending := by
  simp [closeFrame_eq]

@[simp] theorem respondEmpty_pending (code : Byte) (st : Status) : (respondEmpty code st s).pending = s.pending := rfl

@[simp] theorem seriesRead_pending (v : Half) : (seriesRead v s).pending = s.pending := by
  unfold seriesRead
  split <;> rfl

@[simp] theorem statusDue_pending (code : Byte) (r : Reader) : (statusDue code r s).pending = s.pending := by
  have ended : (endSeries s).pending = s.pending := by
    unfold endSeries
    split <;> rfl
  unfold statusDue
  dsimp only
  split <;> simp [ended]

@[simp] theorem beginSeries_pending (code : Byte) (start : HalfAddr) (total : Nat) :
    (beginSeries code start total s).pending = s.pending := by
  simp [beginSeries]

@[simp] theorem answerUnknown_pending (code : Byte) : (answerUnknown code s).pending = s.pending := by
  unfold answerUnknown
  split <;> simp

@[simp] theorem clearLatches_pending (mask : BitVec 16) : (clearLatches mask s).pending = s.pending := rfl

@[simp] theorem writeOptions_pending (select holdLimit : Byte) (highMark : Half) (enables : Byte) :
    (writeOptions select holdLimit highMark enables s).pending = s.pending := rfl

/-- R174: a frame leaves the queue alone when its command does. -/
theorem takeFrame_pending {act : State → State} (h : ∀ x, (act x).pending = x.pending) (bytes : List Byte)
    (crc : Byte) : (takeFrame bytes crc act s).pending = s.pending := by
  unfold takeFrame
  dsimp only
  split
  · split <;> simp [h]
  · rfl

/-- R35: a command that is not taken only answers. -/
theorem gated_pending {act : State → State} (h : ∀ x, (act x).pending = x.pending) (code : Byte)
    (taken : StateName → Bool) : (gated code taken act s).pending = s.pending := by
  unfold gated
  split <;> simp [h]

theorem accepted_pending {begins : State → State} (h : ∀ x, (begins x).pending = x.pending) (code : Byte) :
    (accepted code begins s).pending = s.pending := by
  simp [accepted, h]

/-! ### The commands -/

@[simp] theorem takeStatus_pending : (takeStatus s).pending = s.pending := rfl

@[simp] theorem takeClear_pending (mask : Half) : (takeClear mask s).pending = s.pending := rfl

@[simp] theorem takeReadRecord_pending : (takeReadRecord s).pending = s.pending := rfl

@[simp] theorem takeFetch_pending : (takeFetch s).pending = s.pending := by
  unfold takeFetch
  split <;> simp

@[simp] theorem takeCauseLevel_pending (cause level : Byte) : (takeCauseLevel cause level s).pending = s.pending := by
  unfold takeCauseLevel
  split
  · split <;> rfl
  · rfl

@[simp] theorem takeThreshold_pending (threshold : Byte) : (takeThreshold threshold s).pending = s.pending := by
  unfold takeThreshold
  split <;> rfl

@[simp] theorem takeReadRegion_pending (index : Byte) : (takeReadRegion index s).pending = s.pending := by
  unfold takeReadRegion
  split <;> simp

@[simp] theorem takeOptions_pending (select holdLimit policy : Byte) (highMark : Half) (enables : Byte) :
    (takeOptions select holdLimit policy highMark enables s).pending = s.pending := by
  unfold takeOptions
  split
  · rfl
  · dsimp only
    split
    · split <;> simp
    · simp

@[simp] theorem takeReadSlot_pending (index : Half) : (takeReadSlot index s).pending = s.pending := by
  unfold takeReadSlot
  split <;> simp

@[simp] theorem takeReadHead_pending (copy : Byte) : (takeReadHead copy s).pending = s.pending := by
  unfold takeReadHead
  split
  · simp
  · split <;> simp

@[simp] theorem takeArm_pending : (takeArm s).pending = s.pending := by
  refine gated_pending s (fun x => ?_) _ _
  split
  · exact accepted_pending x (fun y => by simp [beginArm]) _
  · rfl

@[simp] theorem takeDisarm_pending : (takeDisarm s).pending = s.pending := by
  unfold takeDisarm
  split
  · unfold disarmUndo
    split
    · rfl
    · split
      · rfl
      · exact accepted_pending s undoAborted_pending _
  · exact gated_pending s (fun x => accepted_pending x (fun y => by simp [beginDisarm]) _) _ _

@[simp] theorem takeMark_pending (label : Half) : (takeMark label s).pending = s.pending := by
  refine gated_pending s (fun x => ?_) _ _
  unfold markTested
  split
  · rfl
  · rfl
  · exact accepted_pending x (fun y => beginMark_pending y label) _

@[simp] theorem takeRelease_pending : (takeRelease s).pending = s.pending := by
  refine gated_pending s (fun x => ?_) _ _
  split
  · rfl
  · exact accepted_pending x (fun y => by simp [beginRelease]) _

@[simp] theorem takeUndo_pending (option : Byte) : (takeUndo option s).pending = s.pending := by
  refine gated_pending s (fun x => ?_) _ _
  unfold undoTested
  split
  · exact accepted_pending x (fun y => beginUndo_pending y false) _
  · split
    · split
      · rfl
      · exact accepted_pending x (fun y => beginUndo_pending y true) _
    · rfl

@[simp] theorem takeCommit_pending : (takeCommit s).pending = s.pending :=
  gated_pending s (fun x => accepted_pending x (fun y => by simp [beginCommit]) _) _ _

@[simp] theorem takeResume_pending (option : Byte) : (takeResume option s).pending = s.pending := by
  refine gated_pending s (fun x => ?_) _ _
  split
  · exact accepted_pending x (fun y => by simp [beginResume]) _
  · rfl

@[simp] theorem takeSetArea_pending (base slots : Half) : (takeSetArea base slots s).pending = s.pending := by
  refine gated_pending s (fun x => ?_) _ _
  split
  · simp [moveArea]
  · rfl

@[simp] theorem regionTaken_pending (i : Fin 8) (r : Region) : (regionTaken i r s).pending = s.pending := by
  unfold regionTaken
  split
  · simp
  · exact accepted_pending _ (fun y => by simp [beginRecording]) _

@[simp] theorem takeWriteRegion_pending (index mode : Byte) (base length : Half) :
    (takeWriteRegion index mode base length s).pending = s.pending := by
  refine gated_pending s (fun x => ?_) _ _
  unfold regionTested
  split
  · split
    · rfl
    · split <;> simp
  · rfl

end Engine

/-! ## Every command -/

/-- The commands of a frame take its bytes and then their own effect, which leaves the queue alone. -/
theorem exec_frame_pending {c : Instr} (s : State) (hc : crcByte c ≠ none) (hw : c.wellFormed = true) :
    ∃ t, exec c s = .next t ∧ t.pending = s.pending := by
  cases c with
  | unknownCommand code next =>
    have unknown : code ∉ knownCodes := by simpa [Instr.wellFormed] using hw
    exact ⟨answerUnknown code s, if_neg unknown, answerUnknown_pending s code⟩
  | status crc => exact ⟨_, rfl, takeFrame_pending s takeStatus_pending _ _⟩
  | fetchCause crc => exact ⟨_, rfl, takeFrame_pending s takeFetch_pending _ _⟩
  | clearCauses mask crc => exact ⟨_, rfl, takeFrame_pending s (fun x => takeClear_pending x _) _ _⟩
  | setCauseLevel cause level crc => exact ⟨_, rfl, takeFrame_pending s (fun x => takeCauseLevel_pending x _ _) _ _⟩
  | setThreshold threshold crc => exact ⟨_, rfl, takeFrame_pending s (fun x => takeThreshold_pending x _) _ _⟩
  | readRecord crc => exact ⟨_, rfl, takeFrame_pending s takeReadRecord_pending _ _⟩
  | writeRegion index mode base length crc =>
    exact ⟨_, rfl, takeFrame_pending s (fun x => takeWriteRegion_pending x _ _ _ _) _ _⟩
  | readRegion index crc => exact ⟨_, rfl, takeFrame_pending s (fun x => takeReadRegion_pending x _) _ _⟩
  | setArea base slots crc => exact ⟨_, rfl, takeFrame_pending s (fun x => takeSetArea_pending x _ _) _ _⟩
  | setOptions select holdLimit policy highMark enables crc =>
    exact ⟨_, rfl, takeFrame_pending s (fun x => takeOptions_pending x _ _ _ _ _) _ _⟩
  | arm crc => exact ⟨_, rfl, takeFrame_pending s takeArm_pending _ _⟩
  | disarm crc => exact ⟨_, rfl, takeFrame_pending s takeDisarm_pending _ _⟩
  | mark label crc => exact ⟨_, rfl, takeFrame_pending s (fun x => takeMark_pending x _) _ _⟩
  | release crc => exact ⟨_, rfl, takeFrame_pending s takeRelease_pending _ _⟩
  | undo option crc => exact ⟨_, rfl, takeFrame_pending s (fun x => takeUndo_pending x _) _ _⟩
  | commit crc => exact ⟨_, rfl, takeFrame_pending s takeCommit_pending _ _⟩
  | resume option crc => exact ⟨_, rfl, takeFrame_pending s (fun x => takeResume_pending x _) _ _⟩
  | readSlot index crc => exact ⟨_, rfl, takeFrame_pending s (fun x => takeReadSlot_pending x _) _ _⟩
  | readHead copy crc => exact ⟨_, rfl, takeFrame_pending s (fun x => takeReadHead_pending x _) _ _⟩
  | _ => exact absurd rfl hc

/-- The completions of the memory port and the sweeps. -/
theorem exec_completion_pending (s : State) :
    (∃ t, exec .forwardComplete s = .next t ∧ t.pending = s.pending) ∧
    (∃ t, exec .engineAccessComplete s = .next t ∧ t.pending = s.pending) ∧
    (∃ t, exec .linkReadComplete s = .next t ∧ t.pending = s.pending) ∧
    (∃ t, exec .clearSweepComplete s = .next t ∧ t.pending = s.pending) ∧
    (∃ t, exec .relabelSweepComplete s = .next t ∧ t.pending = s.pending) := by
  refine ⟨⟨_, rfl, ?_⟩, ⟨_, rfl, ?_⟩, ⟨_, rfl, ?_⟩, ⟨_, rfl, ?_⟩, ⟨_, rfl, ?_⟩⟩
  · split
    · split <;> simp
    · rfl
  · split
    · split <;> simp
    · rfl
  · split
    · split
      · simp [apply_ite State.pending]
      · rfl
    · rfl
  · split
    · split
      next t h => simp [clearSweep_pending h]
      next => rfl
    · rfl
  · split
    · split
      next t h => simp [relabelSweep_pending h]
      next => rfl
    · rfl

/-- Every well-formed command completes and leaves the queue alone. -/
theorem exec_pending {c : Instr} (s : State) (hw : c.wellFormed = true) :
    ∃ t, exec c s = .next t ∧ t.pending = s.pending := by
  obtain ⟨forwardDone, engineDone, linkDone, cleared, relabelled⟩ := exec_completion_pending s
  cases c with
  | resetAssert =>
    refine ⟨_, rfl, ?_⟩
    split <;> simp
  | resetRelease j a m u n =>
    refine ⟨_, rfl, ?_⟩
    split <;> simp [releaseValues]
  | supplyLoss =>
    refine ⟨_, rfl, ?_⟩
    split <;> simp
  | hostAccessArrive addr st l u d =>
    refine ⟨_, rfl, ?_⟩
    simp only [apply_ite State.pending, arrive_pending, setCycle_pending, ite_self]
  | hostCycleEnd =>
    refine ⟨_, rfl, ?_⟩
    split <;> rfl
  | forwardComplete => exact forwardDone
  | holdTimerExpire =>
    refine ⟨_, rfl, ?_⟩
    split
    · split <;> simp
    · rfl
  | engineAccessComplete => exact engineDone
  | clearSweepComplete => exact cleared
  | relabelSweepComplete => exact relabelled
  | linkReadComplete => exact linkDone
  | linkReadStatusDue =>
    refine ⟨_, rfl, ?_⟩
    split
    · split <;> simp
    · rfl
  | markReqEdge =>
    refine ⟨_, rfl, ?_⟩
    simp only [apply_ite State.pending, settle_frame, markEdge_pending, setMarkLine_pending, ite_self]
  | undoReqEdge =>
    refine ⟨_, rfl, ?_⟩
    simp only [apply_ite State.pending, settle_frame, undoEdge_pending, setUndoLine_pending, ite_self]
  | linkShortFrame =>
    refine ⟨_, rfl, ?_⟩
    split <;> simp
  | linkFrameCut =>
    refine ⟨_, rfl, ?_⟩
    split <;> simp
  | requestLineFall line =>
    refine ⟨_, rfl, ?_⟩
    split
    · rfl
    · cases line <;> rfl
  | nssRiseAfterRelease =>
    refine ⟨_, rfl, ?_⟩
    split <;> rfl
  | unknownCommand | status | fetchCause | clearCauses | setCauseLevel | setThreshold | readRecord | writeRegion
  | readRegion | setArea | setOptions | arm | disarm | mark | release | undo | commit | resume | readSlot | readHead =>
    exact exec_frame_pending s nofun hw

theorem wellFormedCommandsComplete : Claims.WellFormedCommandsComplete := by
  intro c s
  split
  · exact exec_pending s ‹_›
  · rename_i hw
    rw [Bool.not_eq_true] at hw
    cases c with
    | unknownCommand code next => exact exec_unknownCommand_illFormed hw
    | _ => cases hw

theorem absentEventsChangeNothing : Claims.AbsentEventsChangeNothing := by
  intro s
  refine ⟨exec_resetAssert_absent, exec_resetRelease_absent, exec_supplyLoss_absent, fun addr st l u d =>
    ⟨fun h => exec_arrive_absent h addr st l u d, fun hc h => exec_arrive_untaken hc h addr st l u d⟩,
    exec_hostCycleEnd_absent, exec_forwardComplete_absent, exec_holdTimerExpire_absent,
    exec_engineAccessComplete_absent, exec_linkReadComplete_absent, fun h => exec_clearSweepComplete_absent ?_,
    exec_relabelSweepComplete_absent, exec_linkReadStatusDue_absent, exec_lines_absent⟩
  rcases h with h | ⟨harm, hcommit, hdisarm, hbreak⟩
  · exact .inl h
  · exact .inr (clearSweep_eq_none harm hcommit hdisarm hbreak)

end Sys2Proof.Machine

open Sys2Proof Sys2Proof.Machine Sys2Proof.Safety

/-- Settles O2: no operation touches the queue, and an event that cannot occur is met by a guard of its command. -/
theorem commandsComplete : Obligations.CommandsComplete :=
  ⟨wellFormedCommandsComplete, absentEventsChangeNothing⟩
end

section
/-! PROOFS. The area guard (R2, R151): what a host write that a grant brings to the memory was before the grant. -/

namespace Sys2Proof.Machine

open Sys2Proof.Safety

/-- R2: the area begins and ends between two halfwords, so both bytes of a halfword lie inside it or outside. -/
theorem inArea_halfword (base slots a : Nat) : inArea base slots (2 * (a / 2)) = inArea base slots a := by
  rw [Bool.eq_iff_iff, inArea_iff, inArea_iff]
  omega

/-- R136, R149: the host write that a grant brings to the memory waited at the port, at the halfword it changes. -/
theorem waitingWrite_of_hostWrite {u : State} {a : Nat} (hm : MemoryForm u)
    (hw : hostWriteUnderWay (grant u) = true) (ha : Memory.read (grant u).memory a ≠ Memory.read u.memory a) :
    ∃ x : HalfAddr, waitingWrite u = some x ∧ x.toNat = a / 2 := by
  rcases grant_cases u with ⟨-, hg⟩ | ⟨-, -, -, -, hg⟩ | ⟨q, x, -, hx, hg⟩
  · exact absurd (by rw [hg]) ha
  · exact absurd (by rw [hg]) ha
  · have way := writeUnderWay_of_grant hm ha
    rw [hg] at hw way
    simp only [hostWriteUnderWay, grantTo, Bool.and_eq_true, beq_iff_eq] at hw
    obtain ⟨rfl, hdata⟩ := hw
    simp only [writeUnderWay, grantTo, Bool.and_eq_true, beq_iff_eq] at way
    obtain ⟨-, byte⟩ := way
    have asked : u.port.forward = some x := hx
    exact ⟨x.addr, by simp only [waitingWrite, asked, hdata, if_true], byte.symm⟩

/-- R151: outside OFF a host write that a grant brings to the memory changes no byte of the area. -/
theorem outside_area_of_hostWrite {saved : Prop} {u : State} {a : Nat} (hu : Open True saved u) (hm : MemoryForm u)
    (hw : hostWriteUnderWay (grant u) = true) (ha : Memory.read (grant u).memory a ≠ Memory.read u.memory a)
    (hoff : u.engine.mode ≠ .off) : inArea u.engine.base u.engine.slots a = false := by
  obtain ⟨x, waits, byte⟩ := waitingWrite_of_hostWrite hm hw ha
  obtain ⟨-, outside, -⟩ := hu.host
  obtain ⟨outside, -⟩ := outside trivial hoff
  rwa [waits, Option.all_some, byte, inArea_halfword, Bool.not_eq_true'] at outside

end Sys2Proof.Machine

open Sys2Proof Sys2Proof.Machine Sys2Proof.Safety

/-- Settles O16: memory changes at a grant, and a host write that is granted waited outside the area. -/
theorem hostWritesStayOutOfArea : Obligations.HostWritesStayOutOfArea := by
  rintro s t a hport ⟨-, -, base, slots, -⟩ hshield hm ht hw ha hoff
  have laws : Closed True False s ∨ Stopped True False s :=
    closed_or_stopped hport (fun _ => ⟨base, slots⟩) (fun _ => hshield) fun _ => nofun
  rcases step_steps laws nofun ht with ⟨u, hu, -, memory, rfl⟩ | ⟨-, same | idle⟩
  · rw [← memory] at ha
    have hm : MemoryForm u := by rwa [MemoryForm, memory]
    obtain ⟨-, engine, -⟩ := grant_frame u
    rw [engine] at hoff ⊢
    exact outside_area_of_hostWrite hu hm hw ha hoff
  · exact absurd (by rw [same]) ha
  · simp [hostWriteUnderWay, idle] at hw
end

section
/-! PROOFS. READ_RECORD and READ_REGION (R154, R167, R191). -/

namespace Sys2Proof.Machine

open Sys2Proof.Safety

/-! ## READ_RECORD -/

/-- R191: the flags of byte 5 stand at their own bits, so they add up. -/
theorem recordFlags_eq (r : AccessRecord) : recordFlags r =
    BitVec.ofNat 8 ((if r.dir = .write then 1 else 0) + (if r.lanes.lower then 2 else 0)
      + (if r.lanes.upper then 4 else 0) + (if r.outcome = .refused then 8 else 0)) := by
  unfold recordFlags
  split_ifs <;> rfl

/-- R191: the presence bit and the overrun bit of byte 0 add up. -/
theorem presenceByte_true (overrun : Bool) :
    presenceByte true overrun = 0x80#8 + (if overrun then 0x40#8 else 0x00#8) := by
  cases overrun <;> rfl

theorem presenceByte_false (overrun : Bool) :
    presenceByte false overrun = if overrun then 0x40#8 else 0x00#8 := by
  cases overrun <;> rfl

/-- R167: READ_RECORD is answered from the queue as it stands, and takes its oldest record. -/
theorem exec_readRecord_taken {s : State} {crc : Byte} (h : Taken (.readRecord crc) s) :
    exec (.readRecord crc) s = .next (replied 0x06#8 .ok (readRecordBytes s.records)
      { frameBegun s with records := s.records.pop }) := by
  obtain ⟨-, -, -, -, -, -, records, -⟩ := frameBegun_frame s
  simp only [exec, execReadRecord, takeFrame_of_taken h rfl, takeReadRecord, records, respond_eq]

theorem readRecordTaken : Claims.ReadRecordTaken := by
  intro s crc h
  have taken : s.records.pop = { s.records with queue := s.records.queue.drop 1, overrun := false } := by
    rw [RecordQueue.pop, List.drop_one]
  dsimp only
  rw [exec_readRecord_taken h, taken]
  refine ⟨fun hq => ?_, fun r rest hq => ?_⟩
  · rw [readRecordBytes, hq, presenceByte_false]
    rfl
  · simp only [readRecordBytes, hq, presenceByte_true, recordBytes, recordFlags_eq]
    rfl

/-! ## READ_REGION -/

/-- R154: READ_REGION that is taken acts on the state with its frame open. -/
theorem exec_readRegion_taken {s : State} {index crc : Byte} (h : Taken (.readRegion index crc) s) :
    exec (.readRegion index crc) s = .next (takeReadRegion index (frameBegun s)) := by
  simp only [exec, execReadRegion, takeFrame_of_taken h rfl]

theorem readRegionTaken : Claims.ReadRegionTaken := by
  intro s index crc h
  rw [exec_readRegion_taken h]
  refine ⟨fun i hi => ?_, fun hi => ?_⟩
  · obtain ⟨-, -, -, regions, -⟩ := frameBegun_frame s
    have inRange : index.toNat < 8 := hi ▸ i.isLt
    have entry : (⟨index.toNat, inRange⟩ : Fin 8) = i := Fin.ext hi
    rw [takeReadRegion, dif_pos inRange, entry, regions, regionBytes, beBytes_half, beBytes_half, respond_eq]
    rfl
  · rw [takeReadRegion, dif_neg (Nat.not_lt.2 hi), respondEmpty_eq]

end Sys2Proof.Machine

open Sys2Proof Sys2Proof.Machine Sys2Proof.Safety

/-- Settles O52: the response bytes of the model are those of R191, record by record and entry by entry. -/
theorem readRecordAndRegion : Obligations.ReadRecordAndRegion := ⟨readRecordTaken, readRegionTaken⟩
end

section
/-! PROOFS. The cause unit under every step: ALERT and the two level causes (R155 to R159). -/

namespace Sys2Proof.Machine

open Sys2Proof.Safety

/-! ## ALERT and the level causes -/

/-- R159, R160: a cause counts when it is latched above the threshold. -/
theorem CauseUnit.counts_iff (u : CauseUnit) (n : Fin 16) :
    u.counts n = true ↔ u.latches.getLsbD n.val = true ∧ u.threshold < u.levels.get n := by
  simp [CauseUnit.counts]

/-- R159: ALERT that follows the unit is asserted exactly when a cause counts. -/
theorem CauseUnit.follow_alert_iff (u : CauseUnit) : u.follow.alert = true ↔
    ∃ n : Fin 16, u.latches.getLsbD n.val = true ∧ u.threshold < u.levels.get n := by
  simp [CauseUnit.follow, CauseUnit.alertLevel, List.any_eq_true, CauseUnit.counts_iff]

/-- R159: the law of ALERT holds wherever the unit was last left by `follow`. -/
theorem alertLaw_of_follow {s : State} {u : CauseUnit} (h : s.causes = u.follow) : AlertLaw s := by
  rw [AlertLaw, h]
  exact u.follow_alert_iff

theorem getLsbD_causeBit_ite (b : Bool) (n : Fin 16) (i : Nat) :
    (if b then causeBit n else 0#16).getLsbD i = true ↔ b = true ∧ i = n.val := by
  cases b with
  | false => simp
  | true => simp [causeBit, BitVec.getLsbD_twoPow, eq_comm]

/-- R157: the latches held set are 1 under HALTED's condition and 12 under JOURNAL_HIGH's. -/
theorem getLsbD_heldLatches (s : State) (i : Nat) : (heldLatches s).getLsbD i = true ↔
    (haltedHolds s = true ∧ i = 1) ∨ (highHolds s = true ∧ i = 12) := by
  rw [heldLatches, BitVec.getLsbD_or, Bool.or_eq_true]
  exact or_congr (getLsbD_causeBit_ite _ _ i) (getLsbD_causeBit_ite _ _ i)

/-- R157: the law of the level causes, in terms of the latches that their conditions hold set. -/
theorem levelLaw_iff (s : State) : LevelLaw s ↔ (s.power = .running →
    ∀ i, (heldLatches s).getLsbD i = true → s.causes.latches.getLsbD i = true) := by
  simp only [LevelLaw, getLsbD_heldLatches, haltedHolds, highHolds, beq_iff_eq, decide_eq_true_eq]
  refine imp_congr_right fun _ => ⟨fun ⟨halted, high⟩ i hi => ?_, fun h => ⟨fun hm => ?_, fun hf => ?_⟩⟩
  · rcases hi with ⟨hm, rfl⟩ | ⟨hf, rfl⟩
    · exact halted hm
    · exact high hf
  · exact h 1 (.inl ⟨hm, rfl⟩)
  · exact h 12 (.inr ⟨hf, rfl⟩)

/-- R157: the conditions of the level causes are conditions of the engine. -/
theorem heldLatches_of_engine {s t : State} (h : t.engine = s.engine) : heldLatches t = heldLatches s :=
  heldLatches_congr (by rw [haltedHolds, haltedHolds, h]) (by rw [h]) (by rw [h])

/-! ## Operations that keep the laws -/

/-- What an operation does to the laws of ALERT and of the level causes. -/
structure KeepsCauseLaws (s t : State) : Prop where
  alert : AlertLaw s → AlertLaw t
  level : LevelLaw s → LevelLaw t

theorem KeepsCauseLaws.refl (s : State) : KeepsCauseLaws s s := ⟨id, id⟩

theorem KeepsCauseLaws.trans {s t u : State} (h : KeepsCauseLaws s t) (k : KeepsCauseLaws t u) :
    KeepsCauseLaws s u :=
  ⟨k.alert ∘ h.alert, k.level ∘ h.level⟩

/-- The law of the level causes stands where their conditions stand and no latch falls. -/
theorem levelLaw_of_latches {s t : State} (hp : t.power = s.power) (hh : heldLatches t = heldLatches s)
    (hl : ∀ i, s.causes.latches.getLsbD i = true → t.causes.latches.getLsbD i = true) (h : LevelLaw s) :
    LevelLaw t := by
  rw [levelLaw_iff] at h ⊢
  intro running i held
  rw [hp] at running
  rw [hh] at held
  exact hl i (h running i held)

/-- An operation that leaves the power, the cause unit and the level causes' conditions alone. -/
theorem keepsCauseLaws_of_frame {s t : State} (hp : t.power = s.power) (hc : t.causes = s.causes)
    (hh : heldLatches t = heldLatches s) : KeepsCauseLaws s t where
  alert h := by rwa [AlertLaw, hc]
  level := levelLaw_of_latches hp hh fun i hi => by rwa [hc]

/-- R158: levels and threshold may change where ALERT follows and the latches stand. -/
theorem keepsCauseLaws_of_follow {s t : State} {u : CauseUnit} (hp : t.power = s.power)
    (hc : t.causes = u.follow) (hl : u.latches = s.causes.latches) (hh : heldLatches t = heldLatches s) :
    KeepsCauseLaws s t where
  alert _ := alertLaw_of_follow hc
  level := levelLaw_of_latches hp hh fun i hi => by
    rw [hc]
    exact hl.symm ▸ hi

/-- R156: an event latches its cause, and ALERT follows. -/
theorem raise_keepsCauseLaws (c : Cause) (s : State) : KeepsCauseLaws s (raise c s) where
  alert _ := alertLaw_of_follow rfl
  level := levelLaw_of_latches rfl rfl fun i hi => by simp [CauseUnit.follow, hi]

/-- R157, R159: where the level causes have been renewed both laws hold, whatever stood before. -/
theorem renew_keepsCauseLaws (s t : State) : KeepsCauseLaws s (renew t) where
  alert _ := alertLaw_of_follow rfl
  level _ := (levelLaw_iff _).2 fun _ i (held : (heldLatches t).getLsbD i = true) => by
    simp [CauseUnit.follow, held]

theorem grant_keepsCauseLaws (s : State) : KeepsCauseLaws s (grant s) := by
  obtain ⟨power, engine, -, -, causes, -⟩ := grant_frame s
  exact keepsCauseLaws_of_frame power causes (heldLatches_of_engine engine)

/-- R157: every event that moves the engine closes with the level causes renewed (log 19). -/
theorem settle_keepsCauseLaws (s t : State) : KeepsCauseLaws s (settle t) := by
  have request : KeepsCauseLaws (renew t) (requestEngine (renew t)) := keepsCauseLaws_of_frame rfl rfl rfl
  exact (renew_keepsCauseLaws s t).trans (request.trans (grant_keepsCauseLaws _))

/-! ## The link -/

theorem respond_keepsCauseLaws (code : Byte) (st : Status) (data : List Byte) (s : State) :
    KeepsCauseLaws s (respond code st data s) :=
  keepsCauseLaws_of_frame rfl rfl rfl

theorem respondEmpty_keepsCauseLaws (code : Byte) (st : Status) (s : State) :
    KeepsCauseLaws s (respondEmpty code st s) :=
  respond_keepsCauseLaws _ _ _ s

theorem endSeries_keepsCauseLaws (s : State) : KeepsCauseLaws s (endSeries s) := by
  unfold endSeries
  split
  · exact .refl s
  · exact keepsCauseLaws_of_frame rfl rfl rfl

theorem closeFrame_keepsCauseLaws (s : State) : KeepsCauseLaws s (closeFrame s) :=
  (endSeries_keepsCauseLaws s).trans (keepsCauseLaws_of_frame rfl rfl rfl)

theorem openFrame_keepsCauseLaws (s : State) : KeepsCauseLaws s (openFrame s) :=
  (closeFrame_keepsCauseLaws s).trans (keepsCauseLaws_of_frame rfl rfl rfl)

/-- R172, R174: a frame keeps the laws when its command does. -/
theorem takeFrame_keepsCauseLaws (bytes : List Byte) (crc : Byte) (act : State → State) (s : State)
    (h : ∀ x, KeepsCauseLaws x (act x)) : KeepsCauseLaws s (takeFrame bytes crc act s) := by
  unfold takeFrame
  dsimp only
  split
  · refine (openFrame_keepsCauseLaws s).trans ?_
    split
    · exact h _
    · exact (raise_keepsCauseLaws _ _).trans (respondEmpty_keepsCauseLaws _ _ _)
  · exact .refl s

/-- R35: a command that is not taken only answers. -/
theorem gated_keepsCauseLaws (code : Byte) (taken : StateName → Bool) (act : State → State) (s : State)
    (h : KeepsCauseLaws s (act s)) : KeepsCauseLaws s (gated code taken act s) := by
  unfold gated
  split
  · exact respond_keepsCauseLaws _ _ _ s
  · exact h

theorem accepted_keepsCauseLaws (code : Byte) (begins : State → State) (s : State) :
    KeepsCauseLaws s (accepted code begins s) :=
  settle_keepsCauseLaws _ _

theorem beginSeries_keepsCauseLaws (code : Byte) (start : HalfAddr) (total : Nat) (s : State) :
    KeepsCauseLaws s (beginSeries code start total s) := by
  unfold beginSeries
  refine KeepsCauseLaws.trans ?_ (grant_keepsCauseLaws _)
  exact keepsCauseLaws_of_frame rfl rfl rfl

theorem seriesRead_keepsCauseLaws (v : Half) (s : State) : KeepsCauseLaws s (seriesRead v s) := by
  unfold seriesRead
  split
  · exact .refl s
  · exact keepsCauseLaws_of_frame rfl rfl rfl

theorem statusDue_keepsCauseLaws (code : Byte) (r : Reader) (s : State) :
    KeepsCauseLaws s (statusDue code r s) := by
  unfold statusDue
  refine (endSeries_keepsCauseLaws s).trans ?_
  dsimp only
  split
  · exact respond_keepsCauseLaws _ _ _ _
  · exact respondEmpty_keepsCauseLaws _ _ _

theorem answerUnknown_keepsCauseLaws (code : Byte) (s : State) : KeepsCauseLaws s (answerUnknown code s) := by
  unfold answerUnknown
  split
  · exact (openFrame_keepsCauseLaws s).trans
      ((raise_keepsCauseLaws _ _).trans (respond_keepsCauseLaws _ _ _ _))
  · exact .refl s

/-! ### Observation commands -/

/-- R161: latches are cleared with the level causes renewed at the same event. -/
theorem clearLatches_keepsCauseLaws (mask : BitVec 16) (s : State) : KeepsCauseLaws s (clearLatches mask s) :=
  renew_keepsCauseLaws _ _

theorem takeFetch_keepsCauseLaws (s : State) : KeepsCauseLaws s (takeFetch s) := by
  unfold takeFetch
  split
  · exact respond_keepsCauseLaws _ _ _ s
  · exact (clearLatches_keepsCauseLaws _ s).trans (respond_keepsCauseLaws _ _ _ _)

theorem takeClear_keepsCauseLaws (mask : Half) (s : State) : KeepsCauseLaws s (takeClear mask s) :=
  (clearLatches_keepsCauseLaws mask s).trans (respond_keepsCauseLaws _ _ _ _)

theorem takeCauseLevel_keepsCauseLaws (cause level : Byte) (s : State) :
    KeepsCauseLaws s (takeCauseLevel cause level s) := by
  unfold takeCauseLevel
  split
  · split
    · exact keepsCauseLaws_of_follow rfl rfl rfl rfl
    · exact respond_keepsCauseLaws _ _ _ s
  · exact respond_keepsCauseLaws _ _ _ s

theorem takeThreshold_keepsCauseLaws (threshold : Byte) (s : State) :
    KeepsCauseLaws s (takeThreshold threshold s) := by
  unfold takeThreshold
  split
  · exact keepsCauseLaws_of_follow rfl rfl rfl rfl
  · exact respond_keepsCauseLaws _ _ _ s

theorem takeReadRegion_keepsCauseLaws (index : Byte) (s : State) :
    KeepsCauseLaws s (takeReadRegion index s) := by
  unfold takeReadRegion
  split
  · exact respond_keepsCauseLaws _ _ _ s
  · exact respondEmpty_keepsCauseLaws _ _ s

/-- R181: a new high mark is weighed at once, and the policy is no part of a level cause's condition. -/
theorem takeOptions_keepsCauseLaws (select holdLimit policy : Byte) (highMark : Half) (enables : Byte)
    (s : State) : KeepsCauseLaws s (takeOptions select holdLimit policy highMark enables s) := by
  have written : KeepsCauseLaws s (writeOptions select holdLimit highMark enables s) :=
    renew_keepsCauseLaws _ _
  unfold takeOptions
  dsimp only
  split
  · exact respond_keepsCauseLaws _ _ _ s
  · split
    · split
      · exact written.trans (keepsCauseLaws_of_frame rfl rfl rfl)
      · exact written.trans (respond_keepsCauseLaws _ _ _ _)
    · exact written.trans (respond_keepsCauseLaws _ _ _ _)

theorem takeReadSlot_keepsCauseLaws (index : Half) (s : State) : KeepsCauseLaws s (takeReadSlot index s) := by
  unfold takeReadSlot
  split
  · exact beginSeries_keepsCauseLaws _ _ _ s
  · exact respondEmpty_keepsCauseLaws _ _ s

theorem takeReadHead_keepsCauseLaws (copy : Byte) (s : State) : KeepsCauseLaws s (takeReadHead copy s) := by
  unfold takeReadHead
  split
  · exact beginSeries_keepsCauseLaws _ _ _ s
  · split
    · exact beginSeries_keepsCauseLaws _ _ _ s
    · exact respondEmpty_keepsCauseLaws _ _ s

/-! ### Operation commands -/

theorem takeArm_keepsCauseLaws (s : State) : KeepsCauseLaws s (takeArm s) := by
  refine gated_keepsCauseLaws _ _ _ s ?_
  split
  · exact accepted_keepsCauseLaws _ _ s
  · exact respond_keepsCauseLaws _ _ _ s

/-- R89: a DISARM that waits for the slot in progress stays in UNDOING, so HALTED's condition does not arise. -/
theorem disarmUndo_keepsCauseLaws (u : UndoWork) (s : State) (hm : s.engine.mode = .undoing u) :
    KeepsCauseLaws s (disarmUndo u s) := by
  unfold disarmUndo
  split
  · exact respond_keepsCauseLaws _ _ _ s
  · split
    · exact keepsCauseLaws_of_frame rfl rfl (heldLatches_congr (by simp [haltedHolds, hm]) rfl rfl)
    · exact accepted_keepsCauseLaws _ _ s

theorem takeDisarm_keepsCauseLaws (s : State) : KeepsCauseLaws s (takeDisarm s) := by
  unfold takeDisarm
  split
  · exact disarmUndo_keepsCauseLaws _ s ‹_›
  · exact gated_keepsCauseLaws _ _ _ s (accepted_keepsCauseLaws _ _ s)

theorem takeMark_keepsCauseLaws (label : Half) (s : State) : KeepsCauseLaws s (takeMark label s) := by
  refine gated_keepsCauseLaws _ _ _ s ?_
  unfold markTested
  split
  · exact respond_keepsCauseLaws _ _ _ s
  · exact (raise_keepsCauseLaws _ s).trans (respond_keepsCauseLaws _ _ _ _)
  · exact accepted_keepsCauseLaws _ _ s

theorem takeRelease_keepsCauseLaws (s : State) : KeepsCauseLaws s (takeRelease s) := by
  refine gated_keepsCauseLaws _ _ _ s ?_
  split
  · exact respond_keepsCauseLaws _ _ _ s
  · exact accepted_keepsCauseLaws _ _ s

theorem takeUndo_keepsCauseLaws (option : Byte) (s : State) : KeepsCauseLaws s (takeUndo option s) := by
  refine gated_keepsCauseLaws _ _ _ s ?_
  unfold undoTested
  split
  · exact accepted_keepsCauseLaws _ _ s
  · split
    · split
      · exact respond_keepsCauseLaws _ _ _ s
      · exact accepted_keepsCauseLaws _ _ s
    · exact respond_keepsCauseLaws _ _ _ s

theorem takeCommit_keepsCauseLaws (s : State) : KeepsCauseLaws s (takeCommit s) :=
  gated_keepsCauseLaws _ _ _ s (accepted_keepsCauseLaws _ _ s)

theorem takeResume_keepsCauseLaws (option : Byte) (s : State) : KeepsCauseLaws s (takeResume option s) := by
  refine gated_keepsCauseLaws _ _ _ s ?_
  split
  · exact accepted_keepsCauseLaws _ _ s
  · exact respond_keepsCauseLaws _ _ _ s

theorem takeSetArea_keepsCauseLaws (base slots : Half) (s : State) :
    KeepsCauseLaws s (takeSetArea base slots s) := by
  refine gated_keepsCauseLaws _ _ _ s ?_
  split
  · exact settle_keepsCauseLaws _ _
  · exact respond_keepsCauseLaws _ _ _ s

theorem takeWriteRegion_keepsCauseLaws (index mode : Byte) (base length : Half) (s : State) :
    KeepsCauseLaws s (takeWriteRegion index mode base length s) := by
  have taken (i : Fin 8) (r : Region) : KeepsCauseLaws s (regionTaken i r s) := by
    unfold regionTaken
    split <;> exact settle_keepsCauseLaws _ _
  refine gated_keepsCauseLaws _ _ _ s ?_
  unfold regionTested
  split
  · split
    · exact respond_keepsCauseLaws _ _ _ s
    · split
      · exact respond_keepsCauseLaws _ _ _ s
      · exact taken _ _
  · exact respond_keepsCauseLaws _ _ _ s

/-! ## Every command -/

/-- R124, R126, R127: an arrival is classified in an event that closes, or answered by the host port alone. -/
theorem arrive_keepsCauseLaws (addr : HalfAddr) (st : Strobes) (l u : Bool) (d : Half) (s : State) :
    KeepsCauseLaws s (arrive addr st l u d s) := by
  cases st with
  | both => exact keepsCauseLaws_of_frame rfl rfl rfl
  | read =>
    simp only [arrive]
    split
    · exact settle_keepsCauseLaws _ _
    · exact keepsCauseLaws_of_frame rfl rfl rfl
  | write =>
    simp only [arrive]
    split
    · exact settle_keepsCauseLaws _ _
    · exact keepsCauseLaws_of_frame rfl rfl rfl

/-- The law of the level causes speaks of a running part only. -/
theorem levelLaw_of_stopped {s : State} (h : s.power ≠ .running) : LevelLaw s := fun running => absurd running h

/-- R163: with no cause latched ALERT is deasserted. -/
theorem alertLaw_of_reset {s : State} (h : s.causes = State.reset.causes) : AlertLaw s := by
  simp [AlertLaw, h, State.reset]

/-- R42, R107, R163: no cause is latched at the release, and neither level cause's condition holds. -/
theorem startStraps_keepsCauseLaws (jsel : BitVec 4) (autoUndo m u n : Bool) (s : State) :
    KeepsCauseLaws s (startStraps jsel autoUndo (releaseValues m u n s)) := by
  have released : KeepsCauseLaws s (releaseValues m u n s) :=
    ⟨fun _ => alertLaw_of_reset rfl, fun _ _ => ⟨nofun, nofun⟩⟩
  unfold startStraps
  split
  · exact released
  · exact settle_keepsCauseLaws _ _

/-- R3, R37: reset clears the causes, and a part without supply keeps them as they stand. -/
theorem exec_power_keepsCauseLaws {c : Instr} {s t : State} (hc : movesPower c = true)
    (h : exec c s = .next t) : KeepsCauseLaws s t := by
  rcases exec_power hc h with rfl | ⟨-, rfl⟩ | ⟨-, rfl⟩ | ⟨j, a, m, u, n, rfl⟩
  · exact .refl _
  · exact ⟨fun _ => alertLaw_of_reset rfl, fun _ => levelLaw_of_stopped nofun⟩
  · obtain ⟨-, -, -, -, -, causes, -⟩ := cutAccess_frame s
    exact ⟨fun alert => by simpa only [AlertLaw, causes] using alert, fun _ => levelLaw_of_stopped nofun⟩
  · exact startStraps_keepsCauseLaws j a m u n s

/-- R172, R175: the commands of a frame. -/
theorem exec_frame_keepsCauseLaws {c : Instr} {s t : State} (h : exec c s = .next t) (hc : crcByte c ≠ none) :
    KeepsCauseLaws s t := by
  cases c with
  | unknownCommand code next =>
    simp only [exec, execUnknownCommand] at h
    split at h
    · cases h
    · cases h
      exact answerUnknown_keepsCauseLaws code s
  | status crc =>
    cases h
    exact takeFrame_keepsCauseLaws _ _ _ s fun x => respond_keepsCauseLaws _ _ _ x
  | fetchCause crc =>
    cases h
    exact takeFrame_keepsCauseLaws _ _ _ s takeFetch_keepsCauseLaws
  | clearCauses mask crc =>
    cases h
    exact takeFrame_keepsCauseLaws _ _ _ s (takeClear_keepsCauseLaws mask)
  | setCauseLevel cause level crc =>
    cases h
    exact takeFrame_keepsCauseLaws _ _ _ s (takeCauseLevel_keepsCauseLaws cause level)
  | setThreshold threshold crc =>
    cases h
    exact takeFrame_keepsCauseLaws _ _ _ s (takeThreshold_keepsCauseLaws threshold)
  | readRecord crc =>
    cases h
    exact takeFrame_keepsCauseLaws _ _ _ s fun _ => keepsCauseLaws_of_frame rfl rfl rfl
  | writeRegion index mode base length crc =>
    cases h
    exact takeFrame_keepsCauseLaws _ _ _ s (takeWriteRegion_keepsCauseLaws index mode base length)
  | readRegion index crc =>
    cases h
    exact takeFrame_keepsCauseLaws _ _ _ s (takeReadRegion_keepsCauseLaws index)
  | setArea base slots crc =>
    cases h
    exact takeFrame_keepsCauseLaws _ _ _ s (takeSetArea_keepsCauseLaws base slots)
  | setOptions select holdLimit policy highMark enables crc =>
    cases h
    exact takeFrame_keepsCauseLaws _ _ _ s (takeOptions_keepsCauseLaws select holdLimit policy highMark enables)
  | arm crc =>
    cases h
    exact takeFrame_keepsCauseLaws _ _ _ s takeArm_keepsCauseLaws
  | disarm crc =>
    cases h
    exact takeFrame_keepsCauseLaws _ _ _ s takeDisarm_keepsCauseLaws
  | mark label crc =>
    cases h
    exact takeFrame_keepsCauseLaws _ _ _ s (takeMark_keepsCauseLaws label)
  | release crc =>
    cases h
    exact takeFrame_keepsCauseLaws _ _ _ s takeRelease_keepsCauseLaws
  | undo option crc =>
    cases h
    exact takeFrame_keepsCauseLaws _ _ _ s (takeUndo_keepsCauseLaws option)
  | commit crc =>
    cases h
    exact takeFrame_keepsCauseLaws _ _ _ s takeCommit_keepsCauseLaws
  | resume option crc =>
    cases h
    exact takeFrame_keepsCauseLaws _ _ _ s (takeResume_keepsCauseLaws option)
  | readSlot index crc =>
    cases h
    exact takeFrame_keepsCauseLaws _ _ _ s (takeReadSlot_keepsCauseLaws index)
  | readHead copy crc =>
    cases h
    exact takeFrame_keepsCauseLaws _ _ _ s (takeReadHead_keepsCauseLaws copy)
  | _ => exact absurd rfl hc

/-- Every command closes its event with the level causes renewed, or leaves their conditions and latches alone. -/
theorem exec_keepsCauseLaws {c : Instr} {s t : State} (h : exec c s = .next t) : KeepsCauseLaws s t := by
  have same : KeepsCauseLaws s s := .refl s
  cases c with
  | resetAssert | resetRelease | supplyLoss => exact exec_power_keepsCauseLaws rfl h
  | hostAccessArrive addr st l u d =>
    cases h
    have asserted : KeepsCauseLaws s (setCycle true s) := keepsCauseLaws_of_frame rfl rfl rfl
    split
    · exact same
    · split
      · exact asserted
      · exact asserted.trans (arrive_keepsCauseLaws addr st l u d _)
  | hostCycleEnd | nssRiseAfterRelease =>
    cases h
    split
    · exact keepsCauseLaws_of_frame rfl rfl rfl
    · exact same
  | forwardComplete | holdTimerExpire | engineAccessComplete | clearSweepComplete | relabelSweepComplete =>
    cases h
    split
    · split
      · exact settle_keepsCauseLaws _ _
      · exact same
    · exact same
  | linkReadComplete =>
    cases h
    have freed : KeepsCauseLaws s (releasePort .link s) := keepsCauseLaws_of_frame rfl rfl rfl
    split
    · split
      · refine KeepsCauseLaws.trans ?_ (grant_keepsCauseLaws _)
        split
        · exact freed
        · exact freed.trans (seriesRead_keepsCauseLaws _ _)
      · exact same
    · exact same
  | linkReadStatusDue =>
    cases h
    split
    · split
      · exact statusDue_keepsCauseLaws _ _ s
      · exact same
    · exact same
  | markReqEdge | undoReqEdge =>
    cases h
    split
    · exact same
    · dsimp only
      split
      · exact settle_keepsCauseLaws _ _
      · exact keepsCauseLaws_of_frame rfl rfl rfl
  | requestLineFall line =>
    cases h
    split
    · exact same
    · cases line with
      | mark | undo => exact keepsCauseLaws_of_frame rfl rfl rfl
  | linkShortFrame =>
    cases h
    split
    · exact (closeFrame_keepsCauseLaws s).trans (raise_keepsCauseLaws _ _)
    · exact same
  | linkFrameCut =>
    cases h
    split
    · exact closeFrame_keepsCauseLaws s
    · exact same
  | unknownCommand | status | fetchCause | clearCauses | setCauseLevel | setThreshold | readRecord | writeRegion
  | readRegion | setArea | setOptions | arm | disarm | mark | release | undo | commit | resume | readSlot | readHead =>
    exact exec_frame_keepsCauseLaws h nofun

/-- The queue is no part of the laws. -/
theorem step_keepsCauseLaws {s t : State} (h : step s = .next t) : KeepsCauseLaws s t := by
  rcases step_cases h with rfl | ⟨c, rest, h⟩
  · exact .refl _
  · have taken : KeepsCauseLaws s { s with pending := rest } := keepsCauseLaws_of_frame rfl rfl rfl
    exact taken.trans (exec_keepsCauseLaws h)

end Sys2Proof.Machine

open Sys2Proof Sys2Proof.Machine Sys2Proof.Safety

/-- Settles O9: every change of the unit ends with ALERT following, and what moves a level cause's condition or
clears a latch ends with the level causes renewed. -/
theorem stepKeepsAlertAndLevelCauses : Obligations.StepKeepsAlertAndLevelCauses :=
  ⟨fun _ _ hs h => (step_keepsCauseLaws h).alert hs, fun _ _ hs h => (step_keepsCauseLaws h).level hs⟩
end

section
/-! PROOFS. FETCH_CAUSE and CLEAR_CAUSES (R160, R161), SET_CAUSE_LEVEL and SET_THRESHOLD (R158). -/

namespace Sys2Proof.Machine

open Sys2Proof.Safety

/-! ## The cause that FETCH_CAUSE chooses -/

/-- R160: of the causes of a list, one that counts, of the highest level, and of those the lowest number. -/
structure BestOf (u : CauseUnit) (l : List (Fin 16)) (n : Fin 16) : Prop where
  mem : n ∈ l
  counts : u.counts n = true
  best : ∀ m ∈ l, u.counts m = true →
    u.levels.get m < u.levels.get n ∨ (u.levels.get m = u.levels.get n ∧ n ≤ m)

/-- At most one cause is preferred to all others. -/
theorem BestOf.unique {u : CauseUnit} {l : List (Fin 16)} {n m : Fin 16} (hn : BestOf u l n)
    (hm : BestOf u l m) : n = m := by
  have below := hn.best m hm.mem hm.counts
  have above := hm.best n hn.mem hn.counts
  omega

/-- R160: the next cause of a rising list joins the choice among those before it. -/
theorem BestOf.preferred {u : CauseUnit} {l : List (Fin 16)} {n b : Fin 16} (h : BestOf u l b)
    (rising : ∀ m ∈ l, m < n) : ∃ c, preferred u (some b) n = some c ∧ BestOf u (l ++ [n]) c := by
  obtain ⟨mem, counts, best⟩ := h
  have mem' : b ∈ l ++ [n] := List.mem_append_left _ mem
  by_cases hn : u.counts n = true
  · by_cases higher : u.levels.get b < u.levels.get n
    · refine ⟨n, by simp [Machine.preferred, hn, higher], by simp, hn, fun m hm hc => ?_⟩
      rcases List.mem_append.1 hm with hm | hm
      · have := best m hm hc
        omega
      · rw [List.mem_singleton.1 hm]
        omega
    · refine ⟨b, by simp [Machine.preferred, hn, higher], mem', counts, fun m hm hc => ?_⟩
      rcases List.mem_append.1 hm with hm | hm
      · exact best m hm hc
      · rw [List.mem_singleton.1 hm]
        have := rising b mem
        omega
  · refine ⟨b, by simp [Machine.preferred, hn], mem', counts, fun m hm hc => ?_⟩
    rcases List.mem_append.1 hm with hm | hm
    · exact best m hm hc
    · exact absurd (List.mem_singleton.1 hm ▸ hc) hn

/-- R160: the choice along a rising list finds its best cause, or there is none that counts. -/
theorem foldl_preferred (u : CauseUnit) (l : List (Fin 16)) (rising : l.Pairwise (· < ·)) :
    (l.foldl (preferred u) none = none ∧ ∀ m ∈ l, u.counts m = false) ∨
      ∃ n, l.foldl (preferred u) none = some n ∧ BestOf u l n := by
  induction l using List.reverseRecOn with
  | nil => exact .inl ⟨rfl, nofun⟩
  | append_singleton l n ih =>
    obtain ⟨risingInit, -, below⟩ := List.pairwise_append.1 rising
    have below (m) (hm : m ∈ l) : m < n := below m hm n (by simp)
    rw [List.foldl_concat]
    rcases ih risingInit with ⟨chosen, silent⟩ | ⟨b, chosen, best⟩
    · rw [chosen]
      by_cases hn : u.counts n = true
      · refine .inr ⟨n, by simp [preferred, hn], by simp, hn, fun m hm hc => ?_⟩
        rcases List.mem_append.1 hm with hm | hm
        · simp [silent m hm] at hc
        · rw [List.mem_singleton.1 hm]
          omega
      · refine .inl ⟨by simp [preferred, hn], fun m hm => ?_⟩
        rcases List.mem_append.1 hm with hm | hm
        · exact silent m hm
        · rw [List.mem_singleton.1 hm]
          exact eq_false_of_ne_true hn
    · rw [chosen]
      exact .inr (best.preferred below)

/-- R160: no cause is chosen when none counts. -/
theorem CauseUnit.chosen_eq_none {u : CauseUnit} (h : ∀ n, u.counts n = false) : u.chosen = none := by
  rcases foldl_preferred u _ (List.pairwise_lt_finRange 16) with ⟨chosen, -⟩ | ⟨n, -, best⟩
  · exact chosen
  · exact absurd best.counts (by simp [h n])

/-- R160: the cause preferred to all others is chosen. -/
theorem CauseUnit.chosen_eq_some {u : CauseUnit} {n : Fin 16} (h : BestOf u (List.finRange 16) n) :
    u.chosen = some n := by
  rcases foldl_preferred u _ (List.pairwise_lt_finRange 16) with ⟨-, silent⟩ | ⟨m, chosen, best⟩
  · exact absurd h.counts (by simp [silent n h.mem])
  · rw [h.unique best]
    exact chosen

/-! ## FETCH_CAUSE and CLEAR_CAUSES -/

/-- R161: latches cleared in an open frame, with the level causes renewed at the same event. -/
theorem clearLatches_frameBegun (mask : BitVec 16) (s : State) : clearLatches mask (frameBegun s)
    = { frameBegun s with causes := CauseUnit.follow { s.causes with
        latches := (s.causes.latches &&& ~~~ mask) ||| heldLatches s } } := by
  obtain ⟨-, engine, -, -, -, causes, -⟩ := frameBegun_frame s
  rw [← causes, ← heldLatches_of_engine engine]
  rfl

theorem fetchCauseTaken : Claims.FetchCauseTaken := by
  intro s crc h
  obtain ⟨-, -, -, -, -, causes, -⟩ := frameBegun_frame s
  have taken : exec (.fetchCause crc) s = .next (takeFetch (frameBegun s)) := by
    simp only [exec, execFetchCause, takeFrame_of_taken h rfl]
  dsimp only
  rw [taken]
  refine ⟨fun silent => ?_, fun n counts best => ?_⟩
  · have chosen : s.causes.chosen = none := CauseUnit.chosen_eq_none fun n => by
      rw [← Bool.not_eq_true, CauseUnit.counts_iff]
      exact silent n
    simp only [takeFetch, causes, chosen, fetchBytes, beBytes_eq, respond_eq]
  · have chosen : s.causes.chosen = some n :=
      CauseUnit.chosen_eq_some ⟨List.mem_finRange n, (CauseUnit.counts_iff _ _).2 counts, fun m _ hm =>
        best m ((CauseUnit.counts_iff _ _).1 hm)⟩
    simp only [takeFetch, causes, chosen, clearLatches_frameBegun, fetchBytes, beBytes_eq, respond_eq]
    rfl

theorem clearCausesTaken : Claims.ClearCausesTaken := by
  intro s mask crc h
  simp only [exec, execClearCauses, takeFrame_of_taken h rfl, takeClear, clearLatches_frameBegun, beBytes_eq,
    respond_eq]
  rfl

/-! ## SET_CAUSE_LEVEL and SET_THRESHOLD -/

/-- R158: a level set within range is answered OK with ALERT following, and one outside its range RANGE. -/
theorem setCauseLevelTaken {s : State} {cause level crc : Byte} (h : Taken (.setCauseLevel cause level crc) s) :
    (∀ (n : Fin 16) (l : Fin 8), cause.toNat = n.val → level.toNat = l.val →
      exec (.setCauseLevel cause level crc) s = .next (replied 0x04#8 .ok []
        { frameBegun s with causes :=
            CauseUnit.follow { s.causes with levels := s.causes.levels.set n.val l } })) ∧
    (16 ≤ cause.toNat ∨ 8 ≤ level.toNat →
      exec (.setCauseLevel cause level crc) s = .next (replied 0x04#8 .range [] (frameBegun s))) := by
  obtain ⟨-, -, -, -, -, causes, -⟩ := frameBegun_frame s
  have taken : exec (.setCauseLevel cause level crc) s = .next (takeCauseLevel cause level (frameBegun s)) := by
    simp only [exec, execSetCauseLevel, takeFrame_of_taken h rfl]
  rw [taken]
  refine ⟨fun n l hn hl => ?_, fun outside => ?_⟩
  · have inCauses : cause.toNat < 16 := hn ▸ n.isLt
    have inLevels : level.toNat < 8 := hl ▸ l.isLt
    have cause_eq : (⟨cause.toNat, inCauses⟩ : Fin 16) = n := Fin.ext hn
    have level_eq : (⟨level.toNat, inLevels⟩ : Fin 8) = l := Fin.ext hl
    rw [takeCauseLevel, dif_pos inCauses, dif_pos inLevels, cause_eq, level_eq, setLevelOf, causes, respond_eq]
  · unfold takeCauseLevel
    split
    · rw [dif_neg (by omega), respond_eq]
    · rw [respond_eq]

/-- R158: a threshold within range is set with ALERT following, and one above 7 is answered RANGE. -/
theorem setThresholdTaken {s : State} {threshold crc : Byte} (h : Taken (.setThreshold threshold crc) s) :
    (∀ l : Fin 8, threshold.toNat = l.val →
      exec (.setThreshold threshold crc) s = .next (replied 0x05#8 .ok []
        { frameBegun s with causes := CauseUnit.follow { s.causes with threshold := l } })) ∧
    (8 ≤ threshold.toNat →
      exec (.setThreshold threshold crc) s = .next (replied 0x05#8 .range [] (frameBegun s))) := by
  obtain ⟨-, -, -, -, -, causes, -⟩ := frameBegun_frame s
  have taken : exec (.setThreshold threshold crc) s = .next (takeThreshold threshold (frameBegun s)) := by
    simp only [exec, execSetThreshold, takeFrame_of_taken h rfl]
  rw [taken]
  refine ⟨fun l hl => ?_, fun outside => ?_⟩
  · have inLevels : threshold.toNat < 8 := hl ▸ l.isLt
    have level_eq : (⟨threshold.toNat, inLevels⟩ : Fin 8) = l := Fin.ext hl
    rw [takeThreshold, dif_pos inLevels, level_eq, setThresholdTo, causes, respond_eq]
  · rw [takeThreshold, dif_neg (Nat.not_lt.2 outside), respond_eq]

/-- R158: no level exceeds a threshold of 7, and a level of 0 exceeds no threshold. -/
theorem CauseUnit.counts_eq_false {u : CauseUnit} (h : u.threshold = 7 ∨ ∀ n : Fin 16, u.levels.get n = 0)
    (n : Fin 16) : u.counts n = false := by
  rw [← Bool.not_eq_true, u.counts_iff]
  rintro ⟨-, above⟩
  rcases h with h | h
  · rw [h] at above
    omega
  · rw [h n] at above
    omega

theorem CauseUnit.follow_alert_eq_false {u : CauseUnit} (h : ∀ n, u.counts n = false) :
    u.follow.alert = false := by
  simp [CauseUnit.follow, CauseUnit.alertLevel, h]

theorem reset_levels (n : Fin 16) : State.reset.causes.levels.get n = 0 := by
  simp [State.reset, Vector.get]

end Sys2Proof.Machine

open Sys2Proof Sys2Proof.Machine Sys2Proof.Safety

/-- Settles O50: the choice along the sixteen causes ends at the preferred one, and a clear renews at once. -/
theorem causesFetchedAndCleared : Obligations.CausesFetchedAndCleared := ⟨fetchCauseTaken, clearCausesTaken⟩

/-- Settles O51: the range tests of both commands, and a unit in which no cause can exceed the threshold. -/
theorem levelAndThresholdTaken : Obligations.LevelAndThresholdTaken := by
  refine ⟨fun s cause level crc h => setCauseLevelTaken h, fun s threshold crc h => setThresholdTaken h,
    reset_levels, rfl, fun u h => ?_, fun u => ⟨rfl, u.follow_alert_iff⟩⟩
  have silent := CauseUnit.counts_eq_false h
  exact ⟨CauseUnit.follow_alert_eq_false silent, CauseUnit.chosen_eq_none silent⟩
end

section
/-! PROOFS. The bytes of a link frame and the command that they spell (R170, R175, R189). -/

namespace Sys2Proof

/-- R170: the command is well formed, and the bytes are those of its frame. -/
def Spells (bytes : List Byte) (i : Instr) : Prop := i.wellFormed = true ∧ frameBytes i = bytes

/-- A field of two bytes is split as it was joined (R169). -/
@[simp] theorem beBytes_joinHalf (a b : Byte) : beBytes (joinHalf a b) = [a, b] := by
  simp [beBytes]

/-- R175: an unknown code takes one byte after it. -/
theorem spells_of_decode_unknown {code : Byte} {rest : List Byte} {i : Instr} (unknown : code ∉ knownCodes)
    (h : decodeFrame (code :: rest) = some i) : Spells (code :: rest) i := by
  simp only [decodeFrame, if_pos unknown] at h
  split at h
  · cases h
    exact ⟨decide_eq_true unknown, rfl⟩
  · cases h

/-- R170: by the number of bytes after a known code, each command takes its own parameters. -/
theorem spells_of_decode_known {code : Byte} {rest : List Byte} {i : Instr} (known : code ∈ knownCodes)
    (h : decodeFrame (code :: rest) = some i) : Spells (code :: rest) i := by
  simp only [decodeFrame, if_neg (not_not.2 known)] at h
  split at h
  case h_6 => cases h
  all_goals
    split_ifs at h
    all_goals
      cases h
      obtain rfl := ‹code = _›
      exact ⟨rfl, by simp [frameBytes, crcByte, commandBytes]⟩

theorem spells_of_decode {bytes : List Byte} {i : Instr} (h : decodeFrame bytes = some i) : Spells bytes i := by
  cases bytes with
  | nil => cases h
  | cons code rest =>
    by_cases known : code ∈ knownCodes
    · exact spells_of_decode_known known h
    · exact spells_of_decode_unknown known h

/-- R170: the frame of a command gives its code and its parameters back. -/
theorem decode_frameBytes {i : Instr} (hw : i.wellFormed = true) (sent : frameBytes i ≠ []) :
    decodeFrame (frameBytes i) = some i := by
  cases i with
  | unknownCommand code next => exact if_pos (of_decide_eq_true hw)
  | status | fetchCause | readRecord | arm | disarm | release | commit | setThreshold | readRegion | undo | resume
  | readHead | setCauseLevel | clearCauses | mark | readSlot | setArea | writeRegion | setOptions =>
    simp [frameBytes, crcByte, commandBytes, beBytes, decodeFrame, knownCodes]
  | _ => exact absurd rfl sent

end Sys2Proof

/-- Settles O3: one case per command, and one per row of the decoder. -/
theorem frameBytesRoundTrip : Obligations.FrameBytesRoundTrip :=
  ⟨fun _ => Sys2Proof.decode_frameBytes, fun _ _ => Sys2Proof.spells_of_decode⟩
end

section
/-! PROOFS. The frame of every link command and its answer (R170, R172, R174 to R177): each command of a known code takes
its frame and answers in its place of it. -/

namespace Sys2Proof.Machine

open Sys2Proof.Safety

/-! ## The bytes of a frame -/

/-- R170: the family of Laws.FrameShape, over every command. -/
theorem frameShape (i : Instr) : Laws.FrameShape.Statement i := by
  cases i with
  | resetAssert => exact Laws.FrameShape.resetAssert
  | resetRelease => exact Laws.FrameShape.resetRelease ..
  | supplyLoss => exact Laws.FrameShape.supplyLoss
  | hostAccessArrive => exact Laws.FrameShape.hostAccessArrive ..
  | hostCycleEnd => exact Laws.FrameShape.hostCycleEnd
  | forwardComplete => exact Laws.FrameShape.forwardComplete
  | holdTimerExpire => exact Laws.FrameShape.holdTimerExpire
  | engineAccessComplete => exact Laws.FrameShape.engineAccessComplete
  | clearSweepComplete => exact Laws.FrameShape.clearSweepComplete
  | relabelSweepComplete => exact Laws.FrameShape.relabelSweepComplete
  | linkReadComplete => exact Laws.FrameShape.linkReadComplete
  | linkReadStatusDue => exact Laws.FrameShape.linkReadStatusDue
  | markReqEdge => exact Laws.FrameShape.markReqEdge
  | undoReqEdge => exact Laws.FrameShape.undoReqEdge
  | linkShortFrame => exact Laws.FrameShape.linkShortFrame
  | linkFrameCut => exact Laws.FrameShape.linkFrameCut
  | unknownCommand => exact Laws.FrameShape.unknownCommand ..
  | status => exact Laws.FrameShape.status ..
  | fetchCause => exact Laws.FrameShape.fetchCause ..
  | clearCauses => exact Laws.FrameShape.clearCauses ..
  | setCauseLevel => exact Laws.FrameShape.setCauseLevel ..
  | setThreshold => exact Laws.FrameShape.setThreshold ..
  | readRecord => exact Laws.FrameShape.readRecord ..
  | writeRegion => exact Laws.FrameShape.writeRegion ..
  | readRegion => exact Laws.FrameShape.readRegion ..
  | setArea => exact Laws.FrameShape.setArea ..
  | setOptions => exact Laws.FrameShape.setOptions ..
  | arm => exact Laws.FrameShape.arm ..
  | disarm => exact Laws.FrameShape.disarm ..
  | mark => exact Laws.FrameShape.mark ..
  | release => exact Laws.FrameShape.release ..
  | undo => exact Laws.FrameShape.undo ..
  | commit => exact Laws.FrameShape.commit ..
  | resume => exact Laws.FrameShape.resume ..
  | readSlot => exact Laws.FrameShape.readSlot ..
  | readHead => exact Laws.FrameShape.readHead ..
  | requestLineFall => exact Laws.FrameShape.requestLineFall ..
  | nssRiseAfterRelease => exact Laws.FrameShape.nssRiseAfterRelease

theorem crcByte_of_frameBytes {i : Instr} (sent : frameBytes i ≠ []) : ∃ c, crcByte i = some c := by
  refine Option.ne_none_iff_exists'.1 fun none_sent => sent ?_
  rw [frameBytes, none_sent]

/-- R170: a command of the link has its code and the parameters of its code. -/
theorem commandBytes_length {i : Instr} {c : Byte} (hw : i.wellFormed = true) (hc : crcByte i = some c) :
    (commandBytes i).length = 1 + parameterBytes (codeOf (commandBytes i)) := by
  obtain ⟨empty_iff, shape⟩ := frameShape i
  exact shape hw fun empty => by simp [empty_iff.1 empty] at hc

theorem dummyBytes_unknown {code : Byte} (unknown : code ∉ knownCodes) : dummyBytes code = 0 := by
  simp only [knownCodes, List.mem_cons, List.not_mem_nil, or_false, not_or] at unknown
  simp [dummyBytes, unknown]

theorem responseBytes_unknown {code : Byte} (unknown : code ∉ knownCodes) : responseBytes code = 0 := by
  simp only [knownCodes, List.mem_cons, List.not_mem_nil, or_false, not_or] at unknown
  simp [responseBytes, unknown]

theorem frameLength_unknown {code : Byte} (unknown : code ∉ knownCodes) : frameLength code = 4 := by
  simp only [frameLength, parameterBytes_unknown code unknown, dummyBytes_unknown unknown,
    responseBytes_unknown unknown]

/-! ## The answer -/

/-- R176: the link holds the frame of a code with its answer: the status given, over response data that fill their
place, or none yet, while the series of a READ SLOT or READ HEAD runs (R185). -/
inductive Answers (code : Byte) (l : Link) : Option Status → Prop
  | decided {st : Status} {data : List Byte} (fills : data.length = responseBytes code)
      (frame : l.frame = some { code := code, response := some (responseOf st data) }) : Answers code l (some st)
  | due (reads : code = 0x30#8 ∨ code = 0x31#8) (runs : l.reader.isSome = true)
      (frame : l.frame = some { code := code, response := none }) : Answers code l none

/-- R172: the answer of a command that was taken, so that it is not CHECK. -/
def AnswersTaken (code : Byte) (l : Link) : Prop := ∃ st, Answers code l st ∧ st ≠ some .check

theorem respond_answers (code : Byte) (st : Status) {data : List Byte} (s : State)
    (fills : data.length = responseBytes code) : Answers code (respond code st data s).link (some st) :=
  .decided fills rfl

theorem respondEmpty_answers (code : Byte) (st : Status) (s : State) :
    Answers code (respondEmpty code st s).link (some st) :=
  respond_answers code st s List.length_replicate

section Taken
variable {code : Byte}

theorem respond_answersTaken {st : Status} {data : List Byte} (s : State) (fills : data.length = responseBytes code)
    (taken : st ≠ .check) : AnswersTaken code (respond code st data s).link :=
  ⟨st, respond_answers code st s fills, fun h => taken (Option.some.inj h)⟩

theorem respondEmpty_answersTaken {st : Status} (s : State) (taken : st ≠ .check) :
    AnswersTaken code (respondEmpty code st s).link :=
  respond_answersTaken s List.length_replicate taken

/-- R35: a command that begins an operation is answered with a status alone. -/
theorem accepted_answersTaken (begins : State → State) (s : State) (bare : responseBytes code = 0) :
    AnswersTaken code (accepted code begins s).link := by
  obtain ⟨-, -, -, -, -, link, -⟩ := settle_frame (respond code .accepted [] (begins s))
  rw [accepted, link]
  exact respond_answersTaken _ bare.symm nofun

/-- R35, R177: the state test answers with a status alone. -/
theorem gated_answersTaken (taken : StateName → Bool) {act : State → State} (s : State) (bare : responseBytes code = 0)
    (h : AnswersTaken code (act s).link) : AnswersTaken code (gated code taken act s).link := by
  unfold gated
  split
  · rename_i st tested
    refine respond_answersTaken s bare.symm ?_
    rintro rfl
    unfold stateTest at tested
    split_ifs at tested <;> cases tested
  · exact h

/-- R183, R184: a series leaves its answer for later. -/
theorem beginSeries_answersTaken (start : HalfAddr) (total : Nat) (s : State) (reads : code = 0x30#8 ∨ code = 0x31#8) :
    AnswersTaken code (beginSeries code start total s).link := by
  refine ⟨none, ?_, nofun⟩
  unfold beginSeries
  simp only [grant_frame]
  exact .due reads rfl rfl

end Taken

/-! ### The lengths of the response data -/

theorem checkpointBytes_length (c : Option Checkpoint) : (checkpointBytes c).length = 4 := by
  cases c <;> rfl

theorem statusBytes_length (s : State) : (statusBytes s).length = 35 := by
  simp [statusBytes, checkpointBytes_length, beBytes]

theorem readRecordBytes_length (q : RecordQueue) : (readRecordBytes q).length = 10 := by
  unfold readRecordBytes
  split <;> rfl

/-! ### The commands -/

section Commands
variable (s : State)

theorem takeStatus_answersTaken : AnswersTaken 0x01#8 (takeStatus s).link :=
  respond_answersTaken s (statusBytes_length s) nofun

theorem takeFetch_answersTaken : AnswersTaken 0x02#8 (takeFetch s).link := by
  unfold takeFetch
  split
  · exact respond_answersTaken _ rfl nofun
  · exact respond_answersTaken _ rfl nofun

theorem takeClear_answersTaken (mask : Half) : AnswersTaken 0x03#8 (takeClear mask s).link :=
  respond_answersTaken _ rfl nofun

theorem takeCauseLevel_answersTaken (cause level : Byte) : AnswersTaken 0x04#8 (takeCauseLevel cause level s).link := by
  unfold takeCauseLevel
  split
  · split
    · exact respond_answersTaken _ rfl nofun
    · exact respond_answersTaken s rfl nofun
  · exact respond_answersTaken s rfl nofun

theorem takeThreshold_answersTaken (threshold : Byte) : AnswersTaken 0x05#8 (takeThreshold threshold s).link := by
  unfold takeThreshold
  split
  · exact respond_answersTaken _ rfl nofun
  · exact respond_answersTaken s rfl nofun

theorem takeReadRecord_answersTaken : AnswersTaken 0x06#8 (takeReadRecord s).link :=
  respond_answersTaken _ (readRecordBytes_length s.records) nofun

theorem takeReadRegion_answersTaken (index : Byte) : AnswersTaken 0x11#8 (takeReadRegion index s).link := by
  unfold takeReadRegion
  split
  · exact respond_answersTaken s rfl nofun
  · exact respondEmpty_answersTaken s nofun

theorem takeOptions_answersTaken (select holdLimit policy : Byte) (highMark : Half) (enables : Byte) :
    AnswersTaken 0x13#8 (takeOptions select holdLimit policy highMark enables s).link := by
  have options (st : Status) (x : State) (taken : st ≠ .check) :
      AnswersTaken 0x13#8 (respond 0x13#8 st (optionBytes x) x).link := respond_answersTaken x rfl taken
  unfold takeOptions
  split
  · exact options .range _ nofun
  · dsimp only
    split
    · split
      · exact options .ok _ nofun
      · exact options .busy _ nofun
    · exact options .ok _ nofun

theorem takeReadSlot_answersTaken (index : Half) : AnswersTaken 0x30#8 (takeReadSlot index s).link := by
  unfold takeReadSlot
  split
  · exact beginSeries_answersTaken _ _ s (.inl rfl)
  · exact respondEmpty_answersTaken s nofun

theorem takeReadHead_answersTaken (copy : Byte) : AnswersTaken 0x31#8 (takeReadHead copy s).link := by
  unfold takeReadHead
  split
  · exact beginSeries_answersTaken _ _ s (.inr rfl)
  · split
    · exact beginSeries_answersTaken _ _ s (.inr rfl)
    · exact respondEmpty_answersTaken s nofun

theorem takeArm_answersTaken : AnswersTaken 0x20#8 (takeArm s).link := by
  refine gated_answersTaken _ s rfl ?_
  split
  · exact accepted_answersTaken _ s rfl
  · exact respond_answersTaken s rfl nofun

theorem takeDisarm_answersTaken : AnswersTaken 0x21#8 (takeDisarm s).link := by
  unfold takeDisarm
  split
  · unfold disarmUndo
    split
    · exact respond_answersTaken s rfl nofun
    · split
      · exact respond_answersTaken _ rfl nofun
      · exact accepted_answersTaken _ s rfl
  · exact gated_answersTaken _ s rfl (accepted_answersTaken _ s rfl)

theorem takeMark_answersTaken (label : Half) : AnswersTaken 0x22#8 (takeMark label s).link := by
  refine gated_answersTaken _ s rfl ?_
  unfold markTested
  split
  · exact respond_answersTaken s rfl nofun
  · exact respond_answersTaken _ rfl nofun
  · exact accepted_answersTaken _ s rfl

theorem takeRelease_answersTaken : AnswersTaken 0x23#8 (takeRelease s).link := by
  refine gated_answersTaken _ s rfl ?_
  split
  · exact respond_answersTaken s rfl nofun
  · exact accepted_answersTaken _ s rfl

theorem takeUndo_answersTaken (option : Byte) : AnswersTaken 0x24#8 (takeUndo option s).link := by
  refine gated_answersTaken _ s rfl ?_
  unfold undoTested
  split
  · exact accepted_answersTaken _ s rfl
  · split
    · split
      · exact respond_answersTaken s rfl nofun
      · exact accepted_answersTaken _ s rfl
    · exact respond_answersTaken s rfl nofun

theorem takeCommit_answersTaken : AnswersTaken 0x25#8 (takeCommit s).link :=
  gated_answersTaken _ s rfl (accepted_answersTaken _ s rfl)

theorem takeResume_answersTaken (option : Byte) : AnswersTaken 0x26#8 (takeResume option s).link := by
  refine gated_answersTaken _ s rfl ?_
  split
  · exact accepted_answersTaken _ s rfl
  · exact respond_answersTaken s rfl nofun

theorem takeSetArea_answersTaken (base slots : Half) : AnswersTaken 0x12#8 (takeSetArea base slots s).link := by
  refine gated_answersTaken _ s rfl ?_
  split
  · simp only [moveArea, settle_frame]
    exact respond_answersTaken _ rfl nofun
  · exact respond_answersTaken s rfl nofun

theorem takeWriteRegion_answersTaken (index mode : Byte) (base length : Half) :
    AnswersTaken 0x10#8 (takeWriteRegion index mode base length s).link := by
  have range : AnswersTaken 0x10#8 (respond 0x10#8 .range [] s).link := respond_answersTaken s rfl nofun
  refine gated_answersTaken _ s rfl ?_
  unfold regionTested
  split
  · split
    · exact range
    · split
      · exact range
      · unfold regionTaken
        split
        · simp only [settle_frame]
          exact respond_answersTaken _ rfl nofun
        · exact accepted_answersTaken _ _ rfl
  · exact range

end Commands

/-! ## Every command of the link -/

/-- R172, R174: a command of a known code takes its frame, and one that is taken answers. -/
theorem exec_known {i : Instr} {c : Byte} (known : codeOf (commandBytes i) ∈ knownCodes) (hw : i.wellFormed = true)
    (hc : crcByte i = some c) :
    ∃ act : State → State, (∀ s, exec i s = .next (takeFrame (commandBytes i) c act s)) ∧
      ∀ s, AnswersTaken (codeOf (commandBytes i)) (act s).link := by
  cases i with
  | unknownCommand code next => exact absurd known (of_decide_eq_true hw)
  | status crc => cases hc; exact ⟨_, fun _ => rfl, takeStatus_answersTaken⟩
  | fetchCause crc => cases hc; exact ⟨_, fun _ => rfl, takeFetch_answersTaken⟩
  | clearCauses mask crc => cases hc; exact ⟨_, fun _ => rfl, fun s => takeClear_answersTaken s mask⟩
  | setCauseLevel cause level crc =>
    cases hc; exact ⟨_, fun _ => rfl, fun s => takeCauseLevel_answersTaken s cause level⟩
  | setThreshold threshold crc => cases hc; exact ⟨_, fun _ => rfl, fun s => takeThreshold_answersTaken s threshold⟩
  | readRecord crc => cases hc; exact ⟨_, fun _ => rfl, takeReadRecord_answersTaken⟩
  | writeRegion index mode base length crc =>
    cases hc; exact ⟨_, fun _ => rfl, fun s => takeWriteRegion_answersTaken s index mode base length⟩
  | readRegion index crc => cases hc; exact ⟨_, fun _ => rfl, fun s => takeReadRegion_answersTaken s index⟩
  | setArea base slots crc => cases hc; exact ⟨_, fun _ => rfl, fun s => takeSetArea_answersTaken s base slots⟩
  | setOptions select holdLimit policy highMark enables crc =>
    cases hc; exact ⟨_, fun _ => rfl, fun s => takeOptions_answersTaken s select holdLimit policy highMark enables⟩
  | arm crc => cases hc; exact ⟨_, fun _ => rfl, takeArm_answersTaken⟩
  | disarm crc => cases hc; exact ⟨_, fun _ => rfl, takeDisarm_answersTaken⟩
  | mark label crc => cases hc; exact ⟨_, fun _ => rfl, fun s => takeMark_answersTaken s label⟩
  | release crc => cases hc; exact ⟨_, fun _ => rfl, takeRelease_answersTaken⟩
  | undo option crc => cases hc; exact ⟨_, fun _ => rfl, fun s => takeUndo_answersTaken s option⟩
  | commit crc => cases hc; exact ⟨_, fun _ => rfl, takeCommit_answersTaken⟩
  | resume option crc => cases hc; exact ⟨_, fun _ => rfl, fun s => takeResume_answersTaken s option⟩
  | readSlot index crc => cases hc; exact ⟨_, fun _ => rfl, fun s => takeReadSlot_answersTaken s index⟩
  | readHead copy crc => cases hc; exact ⟨_, fun _ => rfl, fun s => takeReadHead_answersTaken s copy⟩
  | _ => cases hc

/-- R175: the only command of the link without a known code. -/
theorem eq_unknownCommand {i : Instr} {c : Byte} (unknown : codeOf (commandBytes i) ∉ knownCodes)
    (hc : crcByte i = some c) : ∃ code, i = .unknownCommand code c := by
  cases i with
  | unknownCommand code next => cases hc; exact ⟨code, rfl⟩
  | status | fetchCause | clearCauses | setCauseLevel | setThreshold | readRecord | writeRegion | readRegion | setArea
  | setOptions | arm | disarm | mark | release | undo | commit | resume | readSlot | readHead =>
    exact absurd (by simp [codeOf, commandBytes, knownCodes]) unknown
  | _ => cases hc

/-- R172, R174, R175: a listening link answers every command in its place, and CHECK is the answer to a known command
whose CRC byte does not match. -/
theorem exec_answers {i : Instr} {s t : State} {c : Byte} (hw : i.wellFormed = true) (hc : crcByte i = some c)
    (hp : s.power = .running) (hi : s.link.ignoring = false) (h : exec i s = .next t) :
    ∃ st, Answers (codeOf (commandBytes i)) t.link st ∧
      (st = some .check ↔ codeOf (commandBytes i) ∈ knownCodes ∧ c ≠ crc8 (commandBytes i)) := by
  by_cases known : codeOf (commandBytes i) ∈ knownCodes
  · obtain ⟨act, takes, answers⟩ := exec_known known hw hc
    rw [takes, Host.Outcome.next.injEq] at h
    subst h
    by_cases agrees : c = crc8 (commandBytes i)
    · rw [takeFrame_taken _ _ _ _ hp hi agrees]
      obtain ⟨st, answer, taken⟩ := answers (openFrame s)
      exact ⟨st, answer, by simp [taken, agrees]⟩
    · rw [takeFrame_check _ _ _ _ hp hi agrees]
      exact ⟨_, respondEmpty_answers _ _ _, by simp [known, agrees]⟩
  · obtain ⟨code, rfl⟩ := eq_unknownCommand known hc
    have answered : t = respond code .unknown [] (raise .linkError (openFrame s)) := by
      have bare : exec (.unknownCommand code c) s = .next (answerUnknown code s) := if_neg known
      rw [bare, answerUnknown, if_pos ((listening_iff s).2 ⟨hp, hi⟩), Host.Outcome.next.injEq] at h
      exact h.symm
    rw [answered]
    exact ⟨_, respond_answers _ _ _ (responseBytes_unknown known).symm, by simp [known]⟩

/-! ## What an answer shows -/

section Answer
variable {code : Byte} {l : Link} {st : Option Status}

/-- R170, R176: a decided answer fills its frame, and any other is still due. -/
theorem Answers.fills (h : Answers code l st) : ∃ f ∈ l.frame, f.code = code ∧
    match f.response with
    | none => (f.code = 0x30#8 ∨ f.code = 0x31#8) ∧ l.reader.isSome = true
    | some r => f.sdoBytes.length = frameLength f.code ∧ r.length = 1 + responseBytes f.code + 1 := by
  cases h with
  | due reads runs frame => exact ⟨_, frame, rfl, reads, runs⟩
  | @decided st data fills frame =>
    have response : (responseOf st data).length = 1 + responseBytes code + 1 := by
      simp [responseOf, fills, Nat.add_comm]
    refine ⟨_, frame, rfl, ?_, response⟩
    simp [Frame.sdoBytes, frameLength, response, Nat.add_assoc]

/-- R171: the last byte of a response is the CRC of the bytes before it. -/
theorem Answers.crc (h : Answers code l st) {f : Frame} {r : List Byte} (hf : l.frame = some f)
    (hr : f.response = some r) : r.getLast? = some (crc8 r.dropLast) := by
  cases h with
  | due reads runs frame =>
    cases frame.symm.trans hf
    cases hr
  | @decided st data fills frame =>
    cases frame.symm.trans hf
    cases hr
    rw [responseOf, List.getLast?_concat, List.dropLast_concat]

theorem statusByte_eq_check_iff (st : Status) : statusByte st = 0xA7#8 ↔ st = .check := by
  cases st <;> decide

/-- R176, R189: the first byte of a response is its status. -/
theorem Answers.check_iff (h : Answers code l st) :
    st = some .check ↔ ∃ f ∈ l.frame, ∃ r ∈ f.response, r.head? = some 0xA7#8 := by
  cases h with
  | due reads runs frame => simp [frame]
  | decided fills frame => simp [frame, responseOf, statusByte_eq_check_iff]

end Answer

end Sys2Proof.Machine

open Sys2Proof Sys2Proof.Machine Sys2Proof.Safety

/-- Settles O4: every command of the link has an answer in its place, decided or due. -/
theorem frameLengthsAreFixed : Obligations.FrameLengthsAreFixed := by
  refine ⟨rfl, rfl, fun code => frameLength_unknown, fun i s t hw sent hp hi h => ?_⟩
  obtain ⟨c, hc⟩ := crcByte_of_frameBytes sent
  obtain ⟨st, answer, -⟩ := exec_answers hw hc hp hi h
  exact ⟨commandBytes_length hw hc, answer.fills⟩
end

section
/-! PROOFS. The two CRCs of the part (R14, R171), and the answer to a CRC byte that does not match (R174). -/

namespace Sys2Proof.Machine

open Sys2Proof.Safety

/-! ## The two CRCs -/

/-- R171: the most significant bit of the CRC-8 register decides. -/
theorem crc8Shift_eq (r : Byte) : crc8Shift r = if r.getLsbD 7 then (r <<< 1) ^^^ 0x07#8 else r <<< 1 := by
  rw [crc8Shift, BitVec.msb_eq_getLsbD_last]

/-- R14: the most significant bit of the CRC-16 register decides. -/
theorem crc16Shift_eq (r : Half) : crc16Shift r = if r.getLsbD 15 then (r <<< 1) ^^^ 0x1021#16 else r <<< 1 := by
  rw [crc16Shift, BitVec.msb_eq_getLsbD_last]

theorem crc8_concat (bytes : List Byte) (b : Byte) :
    crc8 (bytes ++ [b]) = Nat.repeat crc8Shift 8 (crc8 bytes ^^^ b) :=
  List.foldl_concat ..

theorem crc16_concat (bytes : List Byte) (b : Byte) :
    crc16 (bytes ++ [b]) = Nat.repeat crc16Shift 8 (crc16 bytes ^^^ (b ++ 0x00#8 : BitVec 16)) :=
  List.foldl_concat ..

/-- R171, R174: no unknown code is answered CHECK; among the known ones the CRC byte decides. -/
theorem crc8Parameters : Claims.Crc8Parameters := by
  refine ⟨rfl, crc8_concat, crc8Shift_eq, by decide +kernel, fun i s t f r hw sent hp hi h hf hr => ?_,
    fun i s t c known hp hi hc h => ?_⟩
  · obtain ⟨c, hc⟩ := crcByte_of_frameBytes sent
    obtain ⟨st, answer, -⟩ := exec_answers hw hc hp hi h
    exact answer.crc hf hr
  · have hw : i.wellFormed = true := by
      by_contra ill
      have refused := wellFormedCommandsComplete i s
      rw [if_neg ill, h] at refused
      cases refused
    obtain ⟨st, answer, check⟩ := exec_answers hw hc hp hi h
    rw [← answer.check_iff, check, and_iff_right known]

/-- R14: the halfwords of a record enter high byte first, and the data of a SAVE low byte first. -/
theorem crc16Parameters : Claims.Crc16Parameters :=
  ⟨rfl, crc16_concat, crc16Shift_eq, by decide +kernel, fun _ _ _ _ => rfl, fun _ _ _ _ _ => rfl, fun _ => rfl⟩

/-! ## A CRC byte that does not match -/

/-- R174: the answer CHECK on a frame of its own. -/
theorem exec_check {i : Instr} {s : State} {c : Byte} (known : codeOf (commandBytes i) ∈ knownCodes)
    (hw : i.wellFormed = true) (hp : s.power = .running) (hi : s.link.ignoring = false)
    (hc : crcByte i = some c) (differs : c ≠ crc8 (commandBytes i)) :
    exec i s = .next (repliedZeros (codeOf (commandBytes i)) .check (raise .linkError (frameBegun s))) := by
  obtain ⟨act, takes, -⟩ := exec_known known hw hc
  rw [takes, takeFrame_check _ _ _ _ hp hi differs, openFrame_eq, respondEmpty_eq]

/-- R169, R176: the bytes on SDO of an answered frame. -/
theorem replied_sdoBytes (code : Byte) (st : Status) (data : List Byte) (s : State) :
    (replied code st data s).link.frame.map Frame.sdoBytes
      = some (List.replicate (1 + parameterBytes code + 1 + dummyBytes code) 0x00#8 ++ (statusByte st :: data)
        ++ [crc8 (statusByte st :: data)]) := by
  simp [replied, Frame.sdoBytes]

end Sys2Proof.Machine

open Sys2Proof Sys2Proof.Machine Sys2Proof.Safety

/-- Settles O5: the registers and their check values, and the CRC that every answer carries. -/
theorem crcParameters : Obligations.CrcParameters := ⟨crc8Parameters, crc16Parameters⟩

/-- Settles O46: the answer to a frame that is not taken, and its bytes after the command's own. -/
theorem crcMismatchAnswersCheck : Obligations.CrcMismatchAnswersCheck := by
  intro i s c known hw hp hi hc differs
  refine ⟨exec_check known hw hp hi hc differs, ?_⟩
  rw [commandBytes_length hw hc]
  exact replied_sdoBytes _ _ _ _
end

section
/-! PROOFS. STATUS (R178, R190), and the series that READ_SLOT and READ_HEAD begin (R183, R184). -/

namespace Sys2Proof.Machine

open Sys2Proof.Safety

/-! ## STATUS -/

theorem checkpointBytes_some (c : Checkpoint) :
    checkpointBytes (some c) = twoBytes c.position ++ twoBytes c.label.toNat := by
  rw [checkpointBytes, beBytes_half, beBytes_eq]

/-- R190: the two flags stand at their own bits, so they add up. -/
theorem lineBits_eq (mark undo : Bool) :
    lineBits mark undo = BitVec.ofNat 8 ((if mark then 1 else 0) + (if undo then 2 else 0)) := by
  cases mark <;> cases undo <;> rfl

/-- R178: STATUS is answered from the state as it stands. -/
theorem exec_status_taken {s : State} {crc : Byte} (h : Taken (.status crc) s) :
    exec (.status crc) s = .next (replied 0x01#8 .ok (statusBytes s) (frameBegun s)) := by
  obtain ⟨-, engine, -, -, -, causes, records, -⟩ := frameBegun_frame s
  have same : statusBytes (frameBegun s) = statusBytes s := by
    simp only [statusBytes, engine, causes, records]
  simp only [exec, execStatus, takeFrame_of_taken h rfl, takeStatus, same, respond_eq]

/-! ## READ_SLOT and READ_HEAD -/

/-- R183: a series begins with the read of its first halfword. -/
theorem beginSeries_eq (code : Byte) (start : HalfAddr) (total : Nat) (s : State) (reads : 0 < total) :
    beginSeries code start total s = grant { s with
      link := { s.link with
        frame := some { code := code, response := none }
        reader := some { start := start, total := total, got := [] } }
      port := { s.port with link := some { addr := start, data := none, lanes := bothLanes } } } := by
  simp [beginSeries, setFrame, setReader, readerRequest, reads, readAt]

/-- R183: the series of READ_SLOT begins at the slot. -/
theorem slotAddr_zero (base k : Nat) : slotAddr base k 0 = BitVec.ofNat 19 ((base * 1024 + 128 + 44 * k) / 2) := by
  rw [slotAddr_eq_byte, Nat.mul_zero, Nat.add_zero]

/-- R184: the series of READ_HEAD begins at its copy. -/
theorem headAddr_zero (base : Nat) :
    headAddr base .a 0 = BitVec.ofNat 19 ((base * 1024 + 64 * (0#8).toNat) / 2) ∧
    headAddr base .b 0 = BitVec.ofNat 19 ((base * 1024 + 64 * (1#8).toNat) / 2) := by
  constructor <;> simp [headAddr_eq_byte]

theorem readSlotTaken : Claims.ReadSlotTaken := by
  intro s index crc h _
  obtain ⟨-, engine, -⟩ := frameBegun_frame s
  have taken : exec (.readSlot index crc) s = .next (takeReadSlot index (frameBegun s)) := by
    simp only [exec, execReadSlot, takeFrame_of_taken h rfl]
  rw [taken, takeReadSlot, engine, slotAddr_zero]
  refine ⟨fun outside => ?_, fun inside => ?_⟩
  · rw [if_neg (Nat.not_lt.2 outside), respondEmpty_eq]
  · rw [if_pos inside, beginSeries_eq _ _ _ _ (by decide)]

theorem readHeadTaken : Claims.ReadHeadTaken := by
  intro s copy crc h _
  obtain ⟨-, engine, -⟩ := frameBegun_frame s
  have taken : exec (.readHead copy crc) s = .next (takeReadHead copy (frameBegun s)) := by
    simp only [exec, execReadHead, takeFrame_of_taken h rfl]
  obtain ⟨copyA, copyB⟩ := headAddr_zero s.engine.base
  rw [taken, takeReadHead, engine, copyA, copyB]
  refine ⟨fun outside => ?_, fun inside => ?_⟩
  · rw [if_neg (by rintro rfl; exact absurd outside (by decide)),
      if_neg (by rintro rfl; exact absurd outside (by decide)), respondEmpty_eq]
  · have selects : copy = 0#8 ∨ copy = 1#8 := by
      have : copy.toNat = 0 ∨ copy.toNat = 1 := by omega
      exact this.imp BitVec.eq_of_toNat_eq BitVec.eq_of_toNat_eq
    rcases selects with rfl | rfl
    · rw [if_pos rfl, beginSeries_eq _ _ _ _ (by decide)]
    · rw [if_neg (by decide), if_pos rfl, beginSeries_eq _ _ _ _ (by decide)]

end Sys2Proof.Machine

open Sys2Proof Sys2Proof.Machine Sys2Proof.Safety

/-- Settles O49: the codes of R189 and R190, and the fields of the response in their order. -/
theorem statusReports : Obligations.StatusReports := by
  refine ⟨rfl, rfl, rfl, rfl, rfl, fun s crc h => ?_⟩
  intro e place
  have places (k : Nat) : checkpointBytes s.engine.stack[k]? = place k := by
    simp only [place, e]
    cases s.engine.stack[k]? with
    | none => rfl
    | some c => exact checkpointBytes_some c
  rw [exec_status_taken h]
  simp only [statusBytes, Engine.depth, beBytes_half, places, lineBits_eq]
  simp only [beBytes_eq, e]

/-- Settles O47: the tests of both commands, and the first read at its byte address. -/
theorem linkReaderBegins : Obligations.LinkReaderBegins := ⟨readSlotTaken, readHeadTaken⟩
end

section
/-! PROOFS. The step of the queue's front command, and of the empty queue (log 6). -/

namespace Sys2Proof.Machine

/-- Time and events: one command leaves the queue and runs on the state with the queue's rest. -/
theorem step_of_pending_cons {s : State} {c : Instr} {rest : List Instr} (front : s.pending = c :: rest) :
    step s = exec c { s with pending := rest } := by
  rw [step, front]

/-- Log 6: a block without a command in its queue idles. -/
theorem step_of_pending_nil {s : State} (idle : s.pending = []) : step s = .next s := by
  rw [step, idle]

end Sys2Proof.Machine

open Sys2Proof Sys2Proof.Machine Sys2Proof.Safety

/-- Settles O1: a step runs the command at the queue's front, and an empty queue idles. -/
theorem stepRunsFrontCommand : Obligations.StepRunsFrontCommand :=
  ⟨fun _ _ _ => step_of_pending_cons rfl, fun _ => step_of_pending_nil⟩
end

section
/-! SUPPORT. The journal engine's own laws inside an event: fill, depth and the checkpoint stack (R38, R56, R57), the
pending requests (R36, R71), the epoch (R39, R103) and the area left uncovered (R146). `Kept` says that they hold,
`InForce` what an operation that ends or goes over into another one brings with it. -/

namespace Sys2Proof.Machine

open Sys2Proof.Safety

/-! ## The checkpoint stack -/

/-- R56: the position of the top checkpoint of a stack. -/
def topOf (l : List Checkpoint) : Nat := (l.getLast?.map Checkpoint.position).getD 0

/-- R38, R56, R57: one to four checkpoints over the base, numbered from 1, their positions strictly rising. -/
structure StackForm (l : List Checkpoint) : Prop where
  base : l.head? = some baseCheckpoint
  depth : l.length ≤ 4
  numbers : l.map Checkpoint.number = (List.range l.length).map (· + 1)
  positions : (l.map Checkpoint.position).Pairwise (· < ·)

/-- R38, R57: a stack in its form, with fill from its top position to S. -/
structure Stacked (e : Engine) : Prop where
  form : StackForm e.stack
  top : topOf e.stack ≤ e.fill
  room : e.fill ≤ e.slots

theorem topPosition_eq (e : Engine) : e.topPosition = topOf e.stack := rfl

@[simp] theorem topOf_concat (l : List Checkpoint) (c : Checkpoint) : topOf (l ++ [c]) = c.position := by
  simp [topOf]

theorem stackForm_base : StackForm [baseCheckpoint] := ⟨rfl, by decide, rfl, by simp⟩

/-- R57: no checkpoint lies above the top one. -/
theorem StackForm.position_le {l : List Checkpoint} (h : StackForm l) {c : Checkpoint} (hc : c ∈ l) :
    c.position ≤ topOf l := by
  obtain ⟨-, -, -, rising⟩ := h
  rcases List.eq_nil_or_concat l with rfl | ⟨low, x, rfl⟩
  · cases hc
  · rw [List.concat_eq_append] at rising hc ⊢
    rw [topOf_concat]
    rw [List.map_append, List.pairwise_append] at rising
    obtain ⟨-, -, below⟩ := rising
    rcases List.mem_append.1 hc with hc | hc
    · exact (below _ (List.mem_map_of_mem hc) x.position (by simp)).le
    · rw [List.mem_singleton.1 hc]

/-- R58: a checkpoint pushed above the top one. -/
theorem StackForm.push {l : List Checkpoint} (h : StackForm l) (three : l.length ≤ 3) {p : Nat} (above : topOf l < p)
    (label : Half) : StackForm (l ++ [{ position := p, label := label, number := l.length + 1 }]) where
  base := by
    have base := h.base
    cases l with
    | nil => cases base
    | cons c l => exact base
  depth := by
    rw [List.length_append, List.length_singleton]
    omega
  numbers := by simp [h.numbers, List.range_succ]
  positions := by
    rw [List.map_append, List.pairwise_append]
    refine ⟨h.positions, by simp, fun x hx y hy => ?_⟩
    obtain ⟨c, hc, rfl⟩ := List.mem_map.1 hx
    obtain rfl : y = p := by simpa using hy
    exact (h.position_le hc).trans_lt above

/-- R58: the top checkpoint removed, with another one under it, which lies lower. -/
theorem StackForm.pop {l : List Checkpoint} (h : StackForm l) (two : 2 ≤ l.length) :
    StackForm l.dropLast ∧ topOf l.dropLast < topOf l := by
  rcases List.eq_nil_or_concat l with rfl | ⟨low, x, rfl⟩
  · cases two
  rw [List.concat_eq_append] at h two ⊢
  rw [List.dropLast_concat, topOf_concat]
  obtain ⟨base, depth, numbers, rising⟩ := h
  rw [List.map_append, List.pairwise_append] at rising
  obtain ⟨rising, -, below⟩ := rising
  rw [List.length_append, List.length_singleton] at depth two
  refine ⟨⟨?_, by omega, ?_, rising⟩, ?_⟩
  · cases low with
    | nil => simp at two
    | cons c low => exact base
  · simp only [List.map_append, List.length_append, List.length_singleton, List.range_succ] at numbers
    exact List.append_inj_left' numbers rfl
  · rcases List.eq_nil_or_concat low with rfl | ⟨under, y, rfl⟩
    · simp at two
    · rw [List.concat_eq_append] at *
      rw [topOf_concat]
      exact below _ (by simp) _ (by simp)

theorem stackLaws_iff (s : State) : StackLaws s ↔
    (s.engine.mode = .off ∨ s.engine.mode = .broken → s.engine.fill = 0 ∧ s.engine.stack = []) ∧
    (s.engine.mode ≠ .off ∧ s.engine.mode ≠ .broken → Stacked s.engine) ∧ workFits s.engine = true := by
  refine and_congr_right fun _ => and_congr_left fun _ => imp_congr_right fun _ => ?_
  exact ⟨
    fun ⟨base, depth, numbers, positions, top, room⟩ => ⟨⟨base, depth, numbers, positions⟩, top, room⟩,
    fun ⟨⟨base, depth, numbers, positions⟩, top, room⟩ => ⟨base, depth, numbers, positions, top, room⟩⟩

/-! ## The laws relative to the state in which an event began -/

/-- R146: no enabled JOURNAL entry shares a byte with the area. -/
def Uncovered (s : State) : Prop :=
  ∀ i : Fin 8, overlapsArea s.engine.base s.engine.slots (s.regions.entries.get i) = false

/-- The engine's laws hold in `s` as far as they held in `r`, where the event began. -/
structure Kept (r s : State) : Prop where
  stack : StackLaws r → StackLaws s
  pending : PendingLaw r → PendingLaw s
  epoch : EpochLaw r → EpochLaw s
  cover : SameArea r → OverlapLaw r → OverlapLaw s

/-- What the laws of `r` give an engine with a journal in force, whatever state it goes over into. -/
structure InForce (r s : State) : Prop where
  stack : StackLaws r → Stacked s.engine
  epoch : EpochLaw r → s.engine.epoch ≠ 0#16
  cover : SameArea r → OverlapLaw r → Uncovered s

/-- The two states agree in all that the laws of a journal in force speak of. -/
structure SameJournal (s t : State) : Prop where
  fill : t.engine.fill = s.engine.fill
  stack : t.engine.stack = s.engine.stack
  epoch : t.engine.epoch = s.engine.epoch
  base : t.engine.base = s.engine.base
  slots : t.engine.slots = s.engine.slots
  entries : t.regions.entries = s.regions.entries

/-- The two states agree in all that the engine's laws speak of. -/
structure SameCore (s t : State) : Prop extends SameJournal s t where
  mode : t.engine.mode = s.engine.mode
  mark : t.engine.markPending = s.engine.markPending
  undo : t.engine.undoPending = s.engine.undoPending

theorem sameCore_of_engine {s t : State} (he : t.engine = s.engine) (hr : t.regions = s.regions) : SameCore s t := by
  constructor
  · constructor <;> simp only [he, hr]
  all_goals rw [he]

section Law
variable {r s t : State}

theorem InForce.of_same (h : InForce r s) (j : SameJournal s t) : InForce r t where
  stack hr := by
    obtain ⟨form, top, room⟩ := h.stack hr
    exact ⟨j.stack ▸ form, by rwa [j.stack, j.fill], by rwa [j.fill, j.slots]⟩
  epoch hr := j.epoch ▸ h.epoch hr
  cover ha hr i := by
    rw [j.base, j.slots, j.entries]
    exact h.cover ha hr i

/-- What the work requires is said of mode, fill, stack and S. -/
theorem workFits_congr {e f : Engine} (hm : f.mode = e.mode) (hf : f.fill = e.fill) (hs : f.stack = e.stack)
    (hn : f.slots = e.slots) : workFits f = workFits e := by
  cases e
  cases f
  simp only at hm hf hs hn
  subst hm hf hs hn
  rfl

theorem Kept.refl (s : State) : Kept s s := ⟨id, id, id, fun _ => id⟩

theorem Kept.of_same (h : Kept r s) (c : SameCore s t) : Kept r t where
  stack hr := by
    have := h.stack hr
    simp only [StackLaws, workFits_congr c.mode c.fill c.stack c.slots, Engine.topPosition, c.mode, c.fill, c.stack,
      c.slots] at this ⊢
    exact this
  pending hr := by
    have := h.pending hr
    rwa [PendingLaw, c.mode, c.mark, c.undo]
  epoch hr := by
    have := h.epoch hr
    rwa [EpochLaw, c.mode, c.epoch]
  cover ha hr := by
    have := h.cover ha hr
    rwa [OverlapLaw, c.mode, c.base, c.slots, c.entries]

/-- A change of other blocks than the engine and the regions. -/
theorem Kept.of_engine (h : Kept r s) (he : t.engine = s.engine) (hr : t.regions = s.regions) : Kept r t :=
  h.of_same (sameCore_of_engine he hr)

/-- The event read as begun in a state with the same engine and regions. -/
theorem Kept.rebase (h : Kept s t) (he : s.engine = r.engine) (hr : s.regions = r.regions) : Kept r t := by
  have same : Kept r s := (Kept.refl r).of_engine he hr
  refine ⟨h.stack ∘ same.stack, h.pending ∘ same.pending, h.epoch ∘ same.epoch, fun ha ho => ?_⟩
  exact h.cover (by simpa only [SameArea, he, hr] using ha) (same.cover ha ho)

/-! ## Modes -/

/-- The modes in which the journal is in force by the laws: all but OFF, BROKEN, ARMING and the head phase. -/
def Mode.inForce : Mode → Bool
  | .off => false
  | .broken => false
  | .arming _ => false
  | .scanning _ _ (.heads _) => false
  | _ => true

theorem inForce_cases {m : Mode} (h : m.inForce = true) : m ≠ .off ∧ m ≠ .broken ∧ m.headPhase = false ∧
    ∀ epoch, epochFits m epoch = true → epoch ≠ 0#16 := by
  unfold Mode.inForce at h
  split at h
  · cases h
  · cases h
  · cases h
  · cases h
  · rename_i hoff hbroken harm hhead
    refine ⟨hoff, hbroken, ?_, fun epoch hfit => ?_⟩
    · unfold Mode.headPhase
      split
      · exact absurd rfl (hhead _ _ _)
      · rfl
    · unfold epochFits at hfit
      split at hfit
      · exact absurd rfl hoff
      · exact absurd rfl (harm _)
      · exact absurd rfl (harm _)
      · exact absurd rfl (hhead _ _ _)
      · exact bne_iff_ne.1 (Bool.and_eq_true_iff.1 hfit).2
      · exact bne_iff_ne.1 hfit

theorem Kept.inForce (h : Kept r s) (hm : s.engine.mode.inForce = true) : InForce r s := by
  obtain ⟨hoff, hbroken, hhead, hepoch⟩ := inForce_cases hm
  refine ⟨fun hr => ?_, fun hr => hepoch _ (h.epoch hr), fun ha hr => h.cover ha hr hoff hhead⟩
  obtain ⟨-, armed, -⟩ := (stackLaws_iff s).1 (h.stack hr)
  exact armed ⟨hoff, hbroken⟩

/-- R34: an operation state is neither OFF nor BROKEN. -/
theorem armed_of_not_resting {m : Mode} (h : m.name.resting = false) : m ≠ .off ∧ m ≠ .broken := by
  constructor <;> rintro rfl <;> cases h

/-- An operation state entered with the work that fits it. -/
theorem kept_setMode {m : Mode} (hm : m.name.resting = false) (stack : StackLaws r → Stacked s.engine)
    (work : StackLaws r → workFits { s.engine with mode := m } = true)
    (epoch : EpochLaw r → epochFits m s.engine.epoch = true)
    (cover : m.headPhase = false → SameArea r → OverlapLaw r → Uncovered s) : Kept r (setMode m s) := by
  obtain ⟨hoff, hbroken⟩ := armed_of_not_resting hm
  refine ⟨fun hr => (stackLaws_iff _).2 ⟨fun h => (h.elim hoff hbroken).elim, fun _ => ?_, work hr⟩,
    fun _ h => ?_, epoch, fun ha hr _ hh => cover hh ha hr⟩
  · obtain ⟨form, top, room⟩ := stack hr
    exact ⟨form, top, room⟩
  · have h : m.name.resting = true := h
    rw [hm] at h
    cases h

/-- The journal in force goes over into an operation state that asks of the epoch no more than not to be 0. -/
theorem InForce.setMode {m : Mode} (f : InForce r s) (hm : m.name.resting = false)
    (hepoch : ∀ e, epochFits m e = (e != 0#16)) (work : StackLaws r → workFits { s.engine with mode := m } = true) :
    Kept r (setMode m s) :=
  kept_setMode hm f.stack work (fun hr => (hepoch _).trans (bne_iff_ne.2 (f.epoch hr))) fun _ => f.cover

/-- R36, R70, R71: the journal in force at rest in ACTIVE or HALTED, with no request pending. -/
theorem InForce.rests (f : InForce r s) (hm : s.engine.mode = .active ∨ s.engine.mode = .halted)
    (hk : s.engine.markPending = false) (hu : s.engine.undoPending = false) : Kept r s := by
  have armed : s.engine.mode ≠ .off ∧ s.engine.mode ≠ .broken := by
    rcases hm with hm | hm <;> rw [hm] <;> exact ⟨nofun, nofun⟩
  refine ⟨fun hr => (stackLaws_iff s).2 ⟨fun h => (h.elim armed.1 armed.2).elim, fun _ => f.stack hr, ?_⟩,
    fun _ _ => ⟨hk, hu⟩, fun hr => ?_, fun ha hr _ _ => f.cover ha hr⟩
  · rcases hm with hm | hm <;> rw [workFits, hm]
  · rw [EpochLaw]
    rcases hm with hm | hm <;> rw [hm] <;> exact bne_iff_ne.2 (f.epoch hr)

/-! ## The treatment of an access -/

/-- R24, R47, R53, R127: what the treatment of an access does to the engine: nothing, or in ACTIVE it begins a save
below S or a break. -/
inductive Treated (s t : State) : Prop
  | stands (he : t.engine = s.engine) (hr : t.regions = s.regions)
  | saves (w : SaveWork) (hm : s.engine.mode = .active) (room : s.engine.fill < s.engine.slots)
      (he : t.engine = { s.engine with mode := .saving w }) (hr : t.regions = s.regions)
  | breaks (step : CloseStep) (hm : s.engine.mode = .active)
      (he : t.engine = { s.engine with mode := .breaking step }) (hr : t.regions = s.regions)

theorem Kept.treated (h : Kept r s) (k : Treated s t) : Kept r t := by
  cases k with
  | stands he hr => exact h.of_engine he hr
  | saves w hm room he hr =>
    have f : InForce r s := h.inForce (by rw [hm]; rfl)
    have saving : Kept r (setMode (.saving w) s) :=
      f.setMode rfl (fun _ => rfl) fun _ => by simp [workFits, room]
    exact saving.of_engine he hr
  | breaks step hm he hr =>
    have f : InForce r s := h.inForce (by rw [hm]; rfl)
    have breaking : Kept r (setMode (.breaking step) s) := f.setMode rfl (fun _ => rfl) fun _ => rfl
    exact breaking.of_engine he hr

theorem lookupWrite_treated (a : HostAccess) (hm : s.engine.mode = .active) : Treated s (lookupWrite a s) := by
  unfold lookupWrite
  dsimp only
  split
  · exact .stands rfl rfl
  · split
    · exact .saves _ hm ‹_› rfl rfl
    · split
      · exact .stands rfl rfl
      · exact .breaks _ hm rfl rfl

theorem treat_treated (a : HostAccess) (x : HalfAddr) (d : Direction) (s : State) :
    Treated s (treat (classify s x d) a s) := by
  cases hc : classify s x d with
  | forward w => exact .stands rfl rfl
  | hold => exact .stands rfl rfl
  | lookup => exact lookupWrite_treated a (Decidable.byContradiction fun hm => classify_ne_lookup s _ _ hm hc)
  | refuse i => exact .stands (by simp [treat]) (by simp [treat])

theorem resolveHeld_treated (s : State) : Treated s (resolveHeld s) := by
  unfold resolveHeld
  split
  · exact .stands rfl rfl
  · split
    · exact treat_treated _ _ _ s
    · split <;> exact .stands rfl rfl
    all_goals exact .stands rfl rfl

theorem reclassifyWaiting_treated (s : State) : Treated s (reclassifyWaiting s) := by
  unfold reclassifyWaiting
  split
  · exact .stands rfl rfl
  · split
    · cases treat_treated ‹_› (HostAccess.addr ‹_›) (HostAccess.dir ‹_›) (withdrawForward s) with
      | stands he hr => exact .stands he hr
      | saves w hm room he hr => exact .saves w hm room he hr
      | breaks step hm he hr => exact .breaks step hm he hr
    all_goals exact .stands rfl rfl

theorem Kept.resolveHeld (h : Kept r s) : Kept r (resolveHeld s) := h.treated (resolveHeld_treated s)

theorem Kept.reclassifyWaiting (h : Kept r s) : Kept r (reclassifyWaiting s) :=
  h.treated (reclassifyWaiting_treated s)

theorem Kept.grant (h : Kept r s) : Kept r (grant s) := by
  obtain ⟨-, he, -, hr, -⟩ := grant_frame s
  exact h.of_engine he hr

theorem Kept.settle (h : Kept r s) : Kept r (settle s) := by
  obtain ⟨-, he, -, hr, -⟩ := settle_frame s
  exact h.of_engine he hr

/-! ## The ends and beginnings of operations -/

/-- R103: a new epoch is never 0. -/
theorem nextEpoch_ne_zero (old : Half) : nextEpoch old ≠ 0#16 := by
  intro h
  have number := nextEpoch_toNat old
  rw [h] at number
  split at number <;> simp at number

/-- R74, R82: target and walk depth stand, a DROP has a checkpoint to drop, and a KEEP has a slot above its target. -/
structure UndoFits (e : Engine) (u : UndoWork) : Prop where
  target : u.target = topOf e.stack
  walk : u.walkDepth = e.stack.length
  drop : u.drop = true → 2 ≤ e.stack.length
  keep : u.drop = false → u.target < e.fill

/-- R77, R78: the steps of an undo that only a SAVE slot of its walk takes. -/
def UndoStep.restores : UndoStep → Bool
  | .header _ => false
  | .data _ _ => true
  | .restore _ _ _ => true
  | .void _ => false

theorem workFits_undoing {e : Engine} {u : UndoWork} (hm : e.mode = .undoing u) :
    workFits e = true ↔ UndoFits e u ∧ (u.step.restores = true → u.target < e.fill) := by
  have fits : (u.target = e.topPosition ∧ u.walkDepth = e.stack.length ∧ (u.drop = true → 2 ≤ e.stack.length)
      ∧ (u.drop = false → u.target < e.fill)) ↔ UndoFits e u :=
    ⟨fun ⟨target, walk, drop, keep⟩ => ⟨target, walk, drop, keep⟩,
      fun ⟨target, walk, drop, keep⟩ => ⟨target, walk, drop, keep⟩⟩
  simp only [workFits, hm, Bool.and_eq_true, decide_eq_true_eq, fits]
  refine and_congr_right fun _ => ?_
  cases u.step <;> simp [UndoStep.restores]

theorem enterUndoing_kept {drop : Bool} (f : InForce r s)
    (hdrop : StackLaws r → drop = true → 2 ≤ s.engine.stack.length)
    (hwalk : drop = false → topOf s.engine.stack < s.engine.fill) : Kept r (enterUndoing drop s) := by
  have begun : Kept r (setMode (enterUndoing drop s).engine.mode s) :=
    f.setMode rfl (fun _ => rfl) fun hr => (workFits_undoing rfl).2 ⟨⟨rfl, rfl, hdrop hr, hwalk⟩, nofun⟩
  exact begun.of_same ⟨⟨rfl, rfl, rfl, rfl, rfl, rfl⟩, rfl, rfl, rfl⟩

/-- R74, R149: an undo that has begun and classified the waiting forward afresh still has the journal in force. -/
theorem undoBegun_engine (drop : Bool) (s : State) :
    (reclassifyWaiting (enterUndoing drop s)).engine = (enterUndoing drop s).engine :=
  reclassifyWaiting_engine _ (by simp)

theorem InForce.undoBegun (f : InForce r s) (drop : Bool) :
    InForce r (reclassifyWaiting (enterUndoing drop s)) := by
  have he := undoBegun_engine drop s
  exact f.of_same (by constructor <;> simp [he])

theorem refusePending_core (s : State) :
    (refusePending s).engine = { s.engine with markPending := false, undoPending := false } ∧
    (refusePending s).regions = s.regions := by
  rw [refusePending_eq]
  split <;> exact ⟨rfl, rfl⟩

/-- R38, R36, R70: OFF asks nothing of the journal that ends there. -/
theorem endInOff_kept (r s : State) : Kept r (endInOff s) := by
  obtain ⟨he, -⟩ := refusePending_core (setMode .off (emptyJournal s))
  refine Kept.resolveHeld (s := refusePending (setMode .off (emptyJournal s)))
    ⟨fun _ => ?_, fun _ _ => ?_, fun _ => ?_, fun _ _ hoff => ?_⟩
  · rw [stackLaws_iff, he]
    exact ⟨fun _ => ⟨rfl, rfl⟩, fun h => absurd rfl h.1, rfl⟩
  · rw [he]
    exact ⟨rfl, rfl⟩
  · rw [EpochLaw, he]
    rfl
  · exact (hoff (by rw [he]; rfl)).elim

/-- R38, R36, R54, R70: BROKEN empties the journal under the epoch and the area that were in force. -/
theorem endInBroken_kept (f : InForce r s) : Kept r (endInBroken s) := by
  obtain ⟨he, hr⟩ := refusePending_core (raise .broken (setMode .broken (emptyJournal s)))
  refine Kept.resolveHeld (s := refusePending (raise .broken (setMode .broken (emptyJournal s))))
    ⟨fun _ => ?_, fun _ _ => ?_, fun h => ?_, fun ha ho _ _ => ?_⟩
  · rw [stackLaws_iff, he]
    exact ⟨fun _ => ⟨rfl, rfl⟩, fun h => absurd rfl h.2, rfl⟩
  · rw [he]
    exact ⟨rfl, rfl⟩
  · rw [EpochLaw, he]
    exact bne_iff_ne.2 (f.epoch h)
  · rw [he, hr]
    exact f.cover ha ho

/-- R36, R70: an undo that stops at a bad slot rests in HALTED. -/
theorem endInHalted_kept (f : InForce r s) : Kept r (resolveHeld (refusePending (setMode .halted s))) := by
  obtain ⟨he, -⟩ := refusePending_core (setMode .halted s)
  have halted : InForce r (refusePending (setMode .halted s)) :=
    f.of_same (by constructor <;> simp [he])
  exact (halted.rests (.inr (by rw [he]; rfl)) (by rw [he]) (by rw [he])).resolveHeld

/-- R59, R60: a mark begins where its tests pass. -/
theorem beginMark_kept (f : InForce r s) (label : Half) (ht : markTest s.engine = .pass) :
    Kept r (beginMark label s) := by
  refine (f.setMode rfl (fun _ => rfl) fun _ => ?_).reclassifyWaiting
  unfold markTest Engine.depth at ht
  simp only [workFits, decide_eq_true_eq]
  split at ht
  · cases ht
  · split at ht
    · cases ht
    · omega

theorem refuseMarkRequest_core (x : MarkTest) (s : State) :
    (refuseMarkRequest x s).engine = s.engine ∧ (refuseMarkRequest x s).regions = s.regions := by
  cases x <;> exact ⟨rfl, rfl⟩

/-- R69: the engine rests in ACTIVE with no UNDO pending, or begins the pending MARK. -/
theorem restActive_kept (f : InForce r s) (hm : s.engine.mode = .active) (hu : s.engine.undoPending = false) :
    Kept r (restActive s) := by
  cases hk : s.engine.markPending with
  | false =>
    rw [restActive_of_no_mark hk]
    exact (f.rests (.inl hm) hk hu).resolveHeld
  | true =>
    have taken : InForce r (setMarkPending false s) := f.of_same ⟨rfl, rfl, rfl, rfl, rfl, rfl⟩
    have refused (x : MarkTest) : Kept r (resolveHeld (refuseMarkRequest x (setMarkPending false s))) := by
      obtain ⟨he, hr⟩ := refuseMarkRequest_core x (setMarkPending false s)
      exact ((taken.rests (.inl hm) rfl hu).of_engine he hr).resolveHeld
    simp only [restActive, hk, if_true]
    split
    · exact (beginMark_kept taken _ ‹_›).resolveHeld
    · exact refused _
    · exact refused _

/-- R36, R69: an operation that brings the journal in force into ACTIVE. -/
theorem enterActive_kept (f : InForce r s) : Kept r (enterActive s) := by
  have active : InForce r (setMode .active s) := f.of_same ⟨rfl, rfl, rfl, rfl, rfl, rfl⟩
  cases hu : s.engine.undoPending with
  | false =>
    rw [enterActive_of_no_undo hu]
    exact restActive_kept active rfl hu
  | true =>
    have taken : InForce r (setUndoPending false (setMode .active s)) :=
      active.of_same ⟨rfl, rfl, rfl, rfl, rfl, rfl⟩
    rw [enterActive_of_undo hu]
    split
    · have ended : InForce r (undoNormal (pendingUndo s)) :=
        (taken.undoBegun false).of_same ⟨rfl, rfl, rfl, rfl, rfl, rfl⟩
      refine restActive_kept ended rfl ?_
      simp [undoNormal, pendingUndo, undoBegun_engine]
    · rename_i hwalk
      have begun : Kept r (enterUndoing false (setUndoPending false (setMode .active s))) :=
        enterUndoing_kept taken (fun _ => nofun) fun _ => Nat.lt_of_not_le hwalk
      exact begun.reclassifyWaiting.resolveHeld

theorem InForce.undoNormal (f : InForce r s) : InForce r (undoNormal s) := f.of_same ⟨rfl, rfl, rfl, rfl, rfl, rfl⟩

/-- R72, R73, R81: an undo begins, and with KEEP and nothing above the target it ends at its entry. -/
theorem beginUndo_kept {drop : Bool} (f : InForce r s)
    (hdrop : StackLaws r → drop = true → 2 ≤ s.engine.stack.length) : Kept r (beginUndo drop s) := by
  by_cases hwalk : drop = true ∨ s.engine.topPosition < s.engine.fill
  · rw [beginUndo_of_walk hwalk]
    exact (enterUndoing_kept f hdrop fun h => hwalk.resolve_left (by simp [h])).reclassifyWaiting
  · obtain ⟨hkeep, htarget⟩ := not_or.1 hwalk
    obtain rfl : drop = false := by simpa using hkeep
    rw [beginUndo_keep_at_target (Nat.le_of_not_lt htarget)]
    exact enterActive_kept ((f.undoBegun false).of_same ⟨rfl, rfl, rfl, rfl, rfl, rfl⟩)

/-- R99, R100: the journal in force goes over into DISARMING. -/
theorem enterDisarming_kept (f : InForce r s) : Kept r (enterDisarming s) := f.setMode rfl (fun _ => rfl) fun _ => rfl

theorem undoAborted_kept (f : InForce r s) : Kept r (undoAborted s) := by
  have ended : InForce r (raise .undoEnd (setUndoOutcome .aborted s)) := f.of_same ⟨rfl, rfl, rfl, rfl, rfl, rfl⟩
  exact (enterDisarming_kept ended).resolveHeld

theorem undoBad_kept (u : UndoWork) (f : InForce r s) : Kept r (undoBad u s) := by
  have faulted : InForce r (raise .undoFault (setUndoOutcome .fault s)) := f.of_same ⟨rfl, rfl, rfl, rfl, rfl, rfl⟩
  unfold undoBad
  dsimp only
  split
  · exact (enterDisarming_kept faulted).resolveHeld
  · exact endInHalted_kept faulted

/-- R58: the base alone is a stack in its form at fill 0. -/
theorem stacked_baseAlone (s : State) : Stacked (baseAlone s).engine :=
  ⟨stackForm_base, Nat.le_refl 0, Nat.zero_le _⟩

/-- R58, R94, R99: COMMIT and DISARM find the journal in force, in BROKEN over the base alone. -/
theorem fromBroken_inForce (h : Kept r s)
    (hm : s.engine.mode = .active ∨ s.engine.mode = .broken ∨ s.engine.mode = .halted) :
    InForce r (fromBroken s) := by
  unfold fromBroken
  split
  · rename_i hbroken
    refine ⟨fun _ => stacked_baseAlone s, fun hr => ?_, fun ha hr => ?_⟩
    · have epoch := h.epoch hr
      rw [EpochLaw, hbroken] at epoch
      exact bne_iff_ne.1 epoch
    · exact h.cover ha hr (by simp [hbroken]) (by rw [hbroken]; rfl)
  · rename_i hunbroken
    rcases hm with hm | hm | hm
    · exact h.inForce (by rw [hm]; rfl)
    · exact absurd hm hunbroken
    · exact h.inForce (by rw [hm]; rfl)

theorem beginCommit_kept (h : Kept r s)
    (hm : s.engine.mode = .active ∨ s.engine.mode = .broken ∨ s.engine.mode = .halted) :
    Kept r (beginCommit s) := by
  have f := fromBroken_inForce h hm
  refine (kept_setMode (m := .committing (nextEpoch s.engine.epoch) .sweep) (s := fromBroken s) rfl f.stack
    (fun _ => rfl) (fun hr => ?_) fun _ => f.cover).reclassifyWaiting
  simp only [epochFits, Bool.and_eq_true, bne_iff_ne]
  exact ⟨nextEpoch_ne_zero _, f.epoch hr⟩

theorem beginDisarm_kept (h : Kept r s)
    (hm : s.engine.mode = .active ∨ s.engine.mode = .broken ∨ s.engine.mode = .halted) : Kept r (beginDisarm s) :=
  (enterDisarming_kept (fromBroken_inForce h hm)).reclassifyWaiting

end Law

end Sys2Proof.Machine
end


section
/-! SUPPORT. The engine's laws over the completion of an engine access, operation by operation (chapters 3 to 7). -/

namespace Sys2Proof.Machine

open Sys2Proof.Safety

section Law
variable {r s : State}

/-! ## Head writes -/

/-- R45, R95: the base alone under the new epoch, over the area in force. -/
theorem buildEnd_kept {epoch : Half} (w : HeadWrite) (he : EpochLaw r → epoch ≠ 0#16)
    (hc : SameArea r → OverlapLaw r → Uncovered s) : Kept r (buildEnd epoch w s) :=
  enterActive_kept ⟨fun _ => stacked_baseAlone (setEpoch epoch (headWritten w s)), he, hc⟩

/-- R103: the work of ARMING under a new epoch is that of an epoch other than 0. -/
theorem setArming_kept {epoch : Half} (step : BuildStep) (stack : StackLaws r → Stacked s.engine)
    (he : EpochLaw r → epoch ≠ 0#16) (hc : SameArea r → OverlapLaw r → Uncovered s) :
    Kept r (setMode (.arming (.build epoch step)) s) :=
  kept_setMode rfl stack (fun _ => rfl) (fun hr => bne_iff_ne.2 (he hr)) fun _ => hc

theorem advanceArming_kept (v : Half) {step : ArmStep} (h : Kept r s) (hm : s.engine.mode = .arming step) :
    Kept r (advanceArming v step s) := by
  have stack (hr : StackLaws r) : Stacked s.engine := by
    obtain ⟨-, armed, -⟩ := (stackLaws_iff s).1 (h.stack hr)
    exact armed ⟨by simp [hm], by simp [hm]⟩
  have cover (ha : SameArea r) (hr : OverlapLaw r) : Uncovered s :=
    h.cover ha hr (by simp [hm]) (by rw [hm]; rfl)
  have chosen {epoch : Half} {step' : BuildStep} (hs : step = .build epoch step') (hr : EpochLaw r) :
      epoch ≠ 0#16 := by
    have := h.epoch hr
    rw [EpochLaw, hm, hs] at this
    exact bne_iff_ne.1 this
  rcases step with got | ⟨epoch, _ | k | w⟩
  · simp only [advanceArming]
    split
    · exact kept_setMode rfl stack (fun _ => rfl) (fun _ => rfl) fun _ => cover
    · have taken (hr : StackLaws r) :
          Stacked (takeHeadChoice ((got ++ [v]).take 32) ((got ++ [v]).drop 32) s).engine :=
        ⟨(stack hr).form, (stack hr).top, (stack hr).room⟩
      exact setArming_kept _ taken (fun _ => nextEpoch_ne_zero _) cover
  · exact h
  · exact setArming_kept _ stack (chosen rfl) cover
  · simp only [advanceArming]
    split
    · exact buildEnd_kept w (chosen rfl) cover
    · exact setArming_kept _ stack (chosen rfl) cover

/-- R95, R103: COMMITTING keeps the epoch in force and a new one, both other than 0. -/
theorem setCommitting_kept {epoch : Half} (step : BuildStep) (f : InForce r s) (he : EpochLaw r → epoch ≠ 0#16) :
    Kept r (setMode (.committing epoch step) s) := by
  refine kept_setMode rfl f.stack (fun _ => rfl) (fun hr => ?_) fun _ => f.cover
  simp only [epochFits, Bool.and_eq_true, bne_iff_ne]
  exact ⟨he hr, f.epoch hr⟩

theorem committing_epoch {epoch : Half} {step : BuildStep} (h : Kept r s) (hm : s.engine.mode = .committing epoch step)
    (hr : EpochLaw r) : epoch ≠ 0#16 := by
  have := h.epoch hr
  simp only [EpochLaw, hm, epochFits, Bool.and_eq_true, bne_iff_ne] at this
  exact this.1

theorem advanceCommitting_kept {epoch : Half} {step : BuildStep} (h : Kept r s)
    (hm : s.engine.mode = .committing epoch step) : Kept r (advanceCommitting epoch step s) := by
  have f : InForce r s := h.inForce (by rw [hm]; rfl)
  have chosen := committing_epoch h hm
  rcases step with _ | k | w
  · exact h
  · exact setCommitting_kept _ f chosen
  · simp only [advanceCommitting]
    split
    · exact buildEnd_kept w chosen f.cover
    · exact setCommitting_kept _ f chosen

theorem InForce.headWritten (f : InForce r s) (w : HeadWrite) : InForce r (headWritten w s) :=
  f.of_same ⟨rfl, rfl, rfl, rfl, rfl, rfl⟩

theorem InForce.raise (f : InForce r s) (c : Cause) : InForce r (raise c s) :=
  f.of_same ⟨rfl, rfl, rfl, rfl, rfl, rfl⟩

theorem advanceDisarming_kept {step : CloseStep} (h : Kept r s) (hm : s.engine.mode = .disarming step) :
    Kept r (advanceDisarming step s) := by
  rcases step with _ | w
  · exact h
  · simp only [advanceDisarming]
    split
    · exact endInOff_kept r _
    · exact (h.inForce (by rw [hm]; rfl)).setMode rfl (fun _ => rfl) fun _ => rfl

theorem advanceRecording_kept {w : HeadWrite} (h : Kept r s) (hm : s.engine.mode = .recording w) :
    Kept r (advanceRecording w s) := by
  have f : InForce r s := h.inForce (by rw [hm]; rfl)
  unfold advanceRecording
  split
  · exact enterActive_kept (f.headWritten w)
  · exact f.setMode rfl (fun _ => rfl) fun _ => rfl

theorem advanceBreaking_kept {step : CloseStep} (h : Kept r s) (hm : s.engine.mode = .breaking step) :
    Kept r (advanceBreaking step s) := by
  have f : InForce r s := h.inForce (by rw [hm]; rfl)
  rcases step with _ | w
  · exact h
  · simp only [advanceBreaking]
    split
    · exact (f.headWritten w).setMode rfl (fun _ => rfl) fun _ => rfl
    · exact f.setMode rfl (fun _ => rfl) fun _ => rfl

/-! ## Saves, marks and releases -/

/-- R38: fill rises into a slot below S. -/
theorem InForce.fillSucc (f : InForce r s) (room : StackLaws r → s.engine.fill < s.engine.slots) :
    InForce r (setFill (s.engine.fill + 1) s) where
  stack hr := by
    obtain ⟨form, top, -⟩ := f.stack hr
    exact ⟨form, top.trans (Nat.le_succ _), room hr⟩
  epoch := f.epoch
  cover := f.cover

/-- R58: the marker's slot is taken and its checkpoint pushed at the new fill. -/
theorem InForce.pushMarker (f : InForce r s) (label : Half)
    (room : StackLaws r → s.engine.stack.length ≤ 3 ∧ s.engine.fill < s.engine.slots) :
    InForce r (pushStack (s.engine.fill + 1) label (setFill (s.engine.fill + 1) s)) where
  stack hr := by
    obtain ⟨form, top, -⟩ := f.stack hr
    obtain ⟨three, room⟩ := room hr
    exact ⟨form.push three (Nat.lt_succ_of_le top) label, (topOf_concat _ _).le, room⟩
  epoch := f.epoch
  cover := f.cover

theorem savingServed_kept (h : Kept r s) : Kept r (savingServed s) := by
  unfold savingServed
  split
  · rename_i w hm
    split
    · exact enterActive_kept (h.inForce (by rw [hm]; rfl))
    · exact h
  · exact h

/-- R47: the save in progress fills a slot below S. -/
theorem saving_room {w : SaveWork} (h : StackLaws s) (hm : s.engine.mode = .saving w) (hd : w.done ≤ 38) :
    s.engine.fill < s.engine.slots := by
  obtain ⟨-, -, work⟩ := h
  simp only [workFits, hm, decide_eq_true_eq] at work
  exact work hd

theorem advanceSaving_kept (v : Half) {w : SaveWork} (h : Kept r s) (hm : s.engine.mode = .saving w) :
    Kept r (advanceSaving v w s) := by
  have f : InForce r s := h.inForce (by rw [hm]; rfl)
  by_cases hd : w.done = 38
  · rw [advanceSaving_kind v hd]
    have filled : InForce r (setLevel w.granule.toNat s.engine.depth (setFill (s.engine.fill + 1) s)) :=
      (f.fillSucc fun hr => saving_room (h.stack hr) hm (by omega)).of_same ⟨rfl, rfl, rfl, rfl, rfl, rfl⟩
    have stored := filled.setMode (m := .saving { w with done := 39, data := w.data }) rfl (fun _ => rfl)
      fun _ => by simp [workFits]
    unfold saveWritten
    split
    · exact enterActive_kept (stored.inForce rfl)
    · split
      · exact stored.of_engine rfl rfl
      · exact enterActive_kept (stored.inForce rfl)
  · simp only [advanceSaving, hd, if_false]
    refine f.setMode rfl (fun _ => rfl) fun hr => ?_
    simp only [workFits, decide_eq_true_eq]
    exact fun hn => saving_room (h.stack hr) hm (by omega)

theorem advanceMarking_kept {label : Half} {n : Nat} (h : Kept r s) (hm : s.engine.mode = .marking label n) :
    Kept r (advanceMarking label n s) := by
  have f : InForce r s := h.inForce (by rw [hm]; rfl)
  have room (hr : StackLaws r) : s.engine.stack.length ≤ 3 ∧ s.engine.fill < s.engine.slots := by
    obtain ⟨-, -, work⟩ := h.stack hr
    simpa only [workFits, hm, decide_eq_true_eq] using work
  unfold advanceMarking
  split
  · exact enterActive_kept ((f.pushMarker label room).raise _)
  · exact f.setMode rfl (fun _ => rfl) fun hr => decide_eq_true (room hr)

theorem releasing_depth {step : ReleaseStep} (h : StackLaws s) (hm : s.engine.mode = .releasing step) :
    2 ≤ s.engine.stack.length := by
  obtain ⟨-, -, work⟩ := h
  simpa only [workFits, hm, decide_eq_true_eq] using work

theorem advanceReleasing_kept {step : ReleaseStep} (h : Kept r s) (hm : s.engine.mode = .releasing step) :
    Kept r (advanceReleasing step s) := by
  have f : InForce r s := h.inForce (by rw [hm]; rfl)
  cases step with
  | sweep => exact h
  | writeKind =>
    have popped : InForce r (popStack s) := by
      refine ⟨fun hr => ?_, f.epoch, f.cover⟩
      obtain ⟨form, top, room⟩ := f.stack hr
      obtain ⟨form, lower⟩ := form.pop (releasing_depth (h.stack hr) hm)
      exact ⟨form, lower.le.trans top, room⟩
    exact enterActive_kept (popped.raise _)

/-! ## Undo -/

theorem setUndoStep_kept {u : UndoWork} {step : UndoStep} (f : InForce r s)
    (hu : StackLaws r → UndoFits s.engine u)
    (hs : StackLaws r → step.restores = true → u.target < s.engine.fill) : Kept r (setUndoStep u step s) :=
  f.setMode rfl (fun _ => rfl) fun hr => by
    obtain ⟨target, walk, drop, keep⟩ := hu hr
    exact (workFits_undoing (u := { u with step := step }) rfl).2 ⟨⟨target, walk, drop, keep⟩, hs hr⟩

theorem judgeWalk_kept {u : UndoWork} (x : SlotHeader) (f : InForce r s) (hu : StackLaws r → UndoFits s.engine u)
    (hw : u.target < s.engine.fill) : Kept r (judgeWalk u x s) := by
  unfold judgeWalk
  split
  · split
    · exact setUndoStep_kept f hu fun _ _ => hw
    · split
      · exact setUndoStep_kept f hu fun _ => nofun
      · exact undoBad_kept u f
  · exact undoBad_kept u f

theorem judgeMarker_kept {u : UndoWork} (x : SlotHeader) (f : InForce r s)
    (hu : StackLaws r → UndoFits s.engine u) : Kept r (judgeMarker u x s) := by
  unfold judgeMarker
  split
  · exact setUndoStep_kept f hu fun _ => nofun
  · exact undoBad_kept u f

/-- R78, R79: a slot of the walk is removed above the target. -/
theorem InForce.fillPred (f : InForce r s) (above : StackLaws r → topOf s.engine.stack < s.engine.fill) :
    InForce r (setFill (s.engine.fill - 1) s) where
  stack hr := by
    obtain ⟨form, -, room⟩ := f.stack hr
    exact ⟨form, Nat.le_sub_one_of_lt (above hr), (Nat.sub_le _ _).trans room⟩
  epoch := f.epoch
  cover := f.cover

/-- R82: the top marker is removed with its checkpoint. -/
theorem InForce.removeMarker (f : InForce r s) (two : StackLaws r → 2 ≤ s.engine.stack.length) :
    InForce r (removeMarker s) where
  stack hr := by
    obtain ⟨form, top, room⟩ := f.stack hr
    obtain ⟨form, lower⟩ := form.pop (two hr)
    exact ⟨form, Nat.le_sub_one_of_lt (lower.trans_le top), (Nat.sub_le _ _).trans room⟩
  epoch := f.epoch
  cover := f.cover

/-- R75, R81, R82: after a removal of the walk the undo goes on with the next slot, or it is over. -/
theorem afterRemoval_kept {u : UndoWork} (f : InForce r s)
    (target : StackLaws r → u.target = topOf s.engine.stack)
    (walk : StackLaws r → u.walkDepth = s.engine.stack.length)
    (drop : StackLaws r → u.drop = true → 2 ≤ s.engine.stack.length) : Kept r (afterRemoval u s) := by
  have next (keep : u.drop = false → u.target < s.engine.fill) : Kept r (setUndoStep u (.header []) s) :=
    setUndoStep_kept f (fun hr => ⟨target hr, walk hr, drop hr, keep⟩) fun _ => nofun
  unfold afterRemoval
  split
  · exact undoAborted_kept f
  · split
    · split
      · rename_i hdrop
        exact next (by simp [hdrop])
      · exact enterActive_kept f.undoNormal
    · rename_i hwalk
      exact next fun _ => Nat.lt_of_not_le hwalk

theorem voidDone_kept {u : UndoWork} (x : SlotHeader) (f : InForce r s) (hu : StackLaws r → UndoFits s.engine u) :
    Kept r (voidDone u x s) := by
  unfold voidDone
  split
  · rename_i hwalk
    have lowered := f.fillPred fun hr => (hu hr).target ▸ hwalk
    have removed : InForce r (if x.kind = kindSave then removeSave x s else removeReleased s) := by
      split
      · exact lowered.of_same ⟨rfl, rfl, rfl, rfl, rfl, rfl⟩
      · exact lowered
    have stack : (if x.kind = kindSave then removeSave x s else removeReleased s).engine.stack = s.engine.stack := by
      split <;> rfl
    refine afterRemoval_kept removed ?_ ?_ ?_ <;> intro hr <;> rw [stack]
    · exact (hu hr).target
    · exact (hu hr).walk
    · exact (hu hr).drop
  · rename_i htarget
    have removed := f.removeMarker fun hr => by
      cases hd : u.drop with
      | true => exact (hu hr).drop hd
      | false => exact absurd ((hu hr).keep hd) htarget
    split
    · exact undoAborted_kept removed
    · exact enterActive_kept removed.undoNormal

theorem advanceUndoing_kept (v : Half) {u : UndoWork} (h : Kept r s) (hm : s.engine.mode = .undoing u) :
    Kept r (advanceUndoing v u s) := by
  have f : InForce r s := h.inForce (by rw [hm]; rfl)
  have work (hr : StackLaws r) := (workFits_undoing hm).1 (h.stack hr).2.2
  have fits (hr : StackLaws r) : UndoFits s.engine u := (work hr).1
  unfold advanceUndoing
  split
  · dsimp only
    split
    · exact setUndoStep_kept f fits fun _ => nofun
    · split
      · exact judgeWalk_kept _ f fits ‹_›
      · exact judgeMarker_kept _ f fits
  · rename_i hs
    have above (hr : StackLaws r) : u.target < s.engine.fill := (work hr).2 (by rw [hs]; rfl)
    dsimp only
    split
    · exact setUndoStep_kept f fits fun hr _ => above hr
    · split
      · exact setUndoStep_kept f fits fun hr _ => above hr
      · exact undoBad_kept u f
  · rename_i hs
    split
    · exact setUndoStep_kept f fits fun hr _ => (work hr).2 (by rw [hs]; rfl)
    · exact setUndoStep_kept f fits fun _ => nofun
  · exact voidDone_kept _ f fits

/-! ## Resume -/

theorem InForce.setResume (f : InForce r s) (o : ResumeOutcome) (x : StopReason) : InForce r (setResume o x s) :=
  f.of_same ⟨rfl, rfl, rfl, rfl, rfl, rfl⟩

theorem resumeEnd_kept (autoUndo : Bool) (reason : StopReason) (f : InForce r s) :
    Kept r (resumeEnd autoUndo reason s) := by
  cases autoUndo with
  | false =>
    rw [resumeEnd_plain]
    exact enterActive_kept ((f.setResume .resumed reason).raise _)
  | true =>
    have merged : InForce r (resumedMerged reason s) := by
      unfold resumedMerged
      split <;> exact f.of_same ⟨rfl, rfl, rfl, rfl, rfl, rfl⟩
    rw [resumeEnd_auto]
    split
    · exact enterActive_kept (merged.of_same ⟨rfl, rfl, rfl, rfl, rfl, rfl⟩)
    · rename_i hwalk
      have walk : topOf (resumedMerged reason s).engine.stack < (resumedMerged reason s).engine.fill := by
        simpa [(resumedMerged_frame reason s).1, topPosition_eq] using hwalk
      exact (enterUndoing_kept (drop := false) merged (fun _ => nofun) fun _ => walk).resolveHeld

/-- R115, R117: a scan that goes on at the running level, its depth. -/
theorem setScanning_kept {level : Nat} {step : ScanStep} (autoUndo : Bool) (f : InForce r s)
    (hl : StackLaws r → level = s.engine.stack.length)
    (hs : ∀ got, step ≠ .heads got) (room : StackLaws r → s.engine.fill < s.engine.slots) :
    Kept r (setMode (.scanning autoUndo level step) s) := by
  cases step with
  | heads got => exact absurd rfl (hs got)
  | header got => exact f.setMode rfl (fun _ => rfl) fun hr => by simp [workFits, hl hr, room hr]
  | data x got => exact f.setMode rfl (fun _ => rfl) fun hr => by simp [workFits, hl hr, room hr]
  | voiding k reason => exact f.setMode rfl (fun _ => rfl) fun hr => by simp [workFits, hl hr]

theorem scanStop_kept {level : Nat} (autoUndo : Bool) (reason : StopReason) (f : InForce r s)
    (hl : StackLaws r → level = s.engine.stack.length) : Kept r (scanStop autoUndo level reason s) := by
  unfold scanStop
  split
  · exact setScanning_kept autoUndo f hl nofun fun _ => ‹_›
  · exact resumeEnd_kept autoUndo reason f

theorem scanNext_kept {level : Nat} (autoUndo : Bool) (f : InForce r s)
    (hl : StackLaws r → level = s.engine.stack.length) : Kept r (scanNext autoUndo level s) := by
  unfold scanNext
  split
  · exact setScanning_kept autoUndo f hl nofun fun _ => ‹_›
  · exact scanStop_kept autoUndo .atEnd f hl

end Law

end Sys2Proof.Machine
end


section
/-! SUPPORT. The engine's laws over the accesses of a scan and the end of its head phase (R109 to R119). -/

namespace Sys2Proof.Machine

open Sys2Proof.Safety

section Law
variable {r s : State}

/-! ## The slots of a scan -/

theorem scanMarker_kept {level : Nat} (autoUndo : Bool) (x : SlotHeader) (f : InForce r s)
    (hl : StackLaws r → level = s.engine.stack.length) (room : StackLaws r → s.engine.fill < s.engine.slots) :
    Kept r (scanMarker autoUndo level x s) := by
  unfold scanMarker
  split
  · rename_i hlevel
    refine scanNext_kept autoUndo (f.pushMarker x.subject fun hr => ⟨?_, room hr⟩) fun hr => ?_
    · have := hl hr
      omega
    · have := hl hr
      simp [pushStack, setFill, this]
  · exact scanStop_kept autoUndo .number f hl

theorem scanReleased_kept {level : Nat} (autoUndo : Bool) (x : SlotHeader) (f : InForce r s)
    (hl : StackLaws r → level = s.engine.stack.length) (room : StackLaws r → s.engine.fill < s.engine.slots) :
    Kept r (scanReleased autoUndo level x s) := by
  unfold scanReleased
  split
  · exact scanNext_kept autoUndo (f.fillSucc room) hl
  · exact scanStop_kept autoUndo .number f hl

/-- R115: what a scan that reads a slot has: the running level is the depth, and the slot lies below S. -/
theorem scanHeader_kept {level : Nat} (autoUndo : Bool) (x : SlotHeader) (f : InForce r s)
    (hl : StackLaws r → level = s.engine.stack.length) (room : StackLaws r → s.engine.fill < s.engine.slots) :
    Kept r (scanHeader autoUndo level x s) := by
  unfold scanHeader
  split
  · exact scanStop_kept autoUndo _ f hl
  · split
    · exact scanStop_kept autoUndo _ f hl
    · split
      · exact setScanning_kept autoUndo f hl nofun room
      · split
        · exact scanStop_kept autoUndo _ f hl
        · split
          · exact scanMarker_kept autoUndo x f hl room
          · exact scanReleased_kept autoUndo x f hl room

theorem scanKind_kept {level : Nat} (autoUndo : Bool) (v : Half) (f : InForce r s)
    (hl : StackLaws r → level = s.engine.stack.length) (room : StackLaws r → s.engine.fill < s.engine.slots) :
    Kept r (scanKind autoUndo level v s) := by
  unfold scanKind
  split
  · exact scanStop_kept autoUndo _ f hl
  · split
    · exact setScanning_kept autoUndo f hl nofun room
    · exact scanStop_kept autoUndo _ f hl

theorem scanData_kept {level : Nat} (autoUndo : Bool) (x : SlotHeader) (data : List Half) (f : InForce r s)
    (hl : StackLaws r → level = s.engine.stack.length) (room : StackLaws r → s.engine.fill < s.engine.slots) :
    Kept r (scanData autoUndo level x data s) := by
  unfold scanData
  split
  · have accepted : InForce r (acceptSave level x s) := by
      rw [acceptSave_eq]
      exact (f.fillSucc room).of_same ⟨rfl, rfl, rfl, rfl, rfl, rfl⟩
    refine scanNext_kept autoUndo accepted fun hr => ?_
    rw [acceptSave_eq]
    exact hl hr
  · exact scanStop_kept autoUndo _ f hl

/-! ## The end of the head phase -/

/-- R111, R112, R146: a head that is armed or broken brings an epoch other than 0, and an area that no JOURNAL entry
of its table covers. -/
theorem restoreHead_uncovered {ws : List Half}
    (h : headOutcome s.engine.base ws = .armed ∨ headOutcome s.engine.base ws = .broken) :
    headEpochOf ws ≠ 0#16 ∧ Uncovered (restoreHead ws s) := by
  have accepted : headOutcome s.engine.base ws ≠ .badHead ∧ headOutcome s.engine.base ws ≠ .notArmed := by
    rcases h with h | h <;> rw [h] <;> exact ⟨nofun, nofun⟩
  rw [headOutcome_eq] at accepted
  obtain ⟨hbad, harmed⟩ := accepted
  split at hbad
  · exact absurd rfl hbad
  · rename_i rejected
    rw [if_neg rejected] at harmed
    have state : headStateOf ws ≠ stateDisarmed := fun hs => harmed (if_pos hs)
    simp only [HeadRejected, not_or, not_and, not_exists] at rejected
    obtain ⟨⟨small, -⟩, -, epoch, -, whole, apart⟩ := rejected
    obtain ⟨t, ht⟩ := headTable_of_isSome fun i => Option.isSome_iff_ne_none.2 (whole i)
    refine ⟨epoch, fun i => ?_⟩
    have entry : (restoreHead ws s).regions.entries = t := by simp [restoreHead, ht]
    have configured : headSlotsOf ws ≠ 0 := by omega
    rw [entry, Bool.eq_false_iff, Ne]
    show ¬ overlapsArea s.engine.base (headSlotsOf ws) (t.get i) = true
    rw [overlapsArea_iff configured]
    exact apart state i (t.get i) (headTable_get ht i)

/-- R109, R112: the base alone at fill 0 stands over the S of the head. -/
theorem restoreHead_inForce {ws : List Half} (stack : StackLaws r → Stacked s.engine ∧ s.engine.fill = 0)
    (h : headOutcome s.engine.base ws = .armed ∨ headOutcome s.engine.base ws = .broken) :
    InForce r (restoreHead ws s) where
  stack hr := by
    obtain ⟨⟨form, top, -⟩, empty⟩ := stack hr
    exact ⟨form, top, empty.le.trans (Nat.zero_le _)⟩
  epoch _ := (restoreHead_uncovered h).1
  cover _ _ := (restoreHead_uncovered h).2

/-- R113: the resume ends in OFF. -/
theorem resumeOff_kept (r : State) (o : ResumeOutcome) (s : State) : Kept r (resumeOff o s) := endInOff_kept r _

/-- R111, R113, R114: the end of the head phase, by the outcome of the head's tests. -/
theorem takeHead_kept {level : Nat} (autoUndo : Bool) (ws : List Half)
    (stack : StackLaws r → Stacked s.engine ∧ s.engine.fill = 0)
    (hl : StackLaws r → level = s.engine.stack.length) : Kept r (takeHead autoUndo level ws s) := by
  unfold takeHead
  split
  · exact resumeOff_kept r _ _
  · exact resumeOff_kept r _ _
  · rename_i hout
    exact endInBroken_kept (((restoreHead_inForce stack (.inr hout)).setResume .broken .none).raise .resumeEnd)
  · rename_i hout
    have room : s.engine.fill = 0 → s.engine.fill < headSlotsOf ws := by
      obtain ⟨⟨small, -⟩, -⟩ := head_fits_of_not_badHead (base := s.engine.base) (ws := ws) (by simp [hout])
      omega
    have scanning : Kept r (setMode (.scanning autoUndo level (.header [])) (restoreHead ws s)) :=
      setScanning_kept autoUndo (restoreHead_inForce stack (.inl hout)) hl nofun fun hr => room (stack hr).2
    exact scanning.resolveHeld

theorem headPhaseEnd_kept {level : Nat} (autoUndo : Bool) (got : List Half)
    (stack : StackLaws r → Stacked s.engine ∧ s.engine.fill = 0)
    (hl : StackLaws r → level = s.engine.stack.length) : Kept r (headPhaseEnd autoUndo level got s) := by
  have chosen (a b : List Half) (hr : StackLaws r) :
      Stacked (takeHeadChoice a b s).engine ∧ (takeHeadChoice a b s).engine.fill = 0 := by
    obtain ⟨⟨form, top, room⟩, empty⟩ := stack hr
    exact ⟨⟨form, top, room⟩, empty⟩
  unfold headPhaseEnd
  dsimp only
  split
  · exact resumeOff_kept r _ _
  · exact takeHead_kept autoUndo _ (chosen _ _) hl
  · exact takeHead_kept autoUndo _ (chosen _ _) hl

/-! ## The accesses of SCANNING -/

theorem scanning_level {autoUndo : Bool} {level : Nat} {step : ScanStep} (h : StackLaws s)
    (hm : s.engine.mode = .scanning autoUndo level step) : level = s.engine.stack.length := by
  obtain ⟨-, -, work⟩ := h
  simp only [workFits, hm, Bool.and_eq_true, decide_eq_true_eq] at work
  exact work.1

theorem scanning_empty {autoUndo : Bool} {level : Nat} {got : List Half} (h : StackLaws s)
    (hm : s.engine.mode = .scanning autoUndo level (.heads got)) : s.engine.fill = 0 := by
  obtain ⟨-, -, work⟩ := h
  simp only [workFits, hm, Bool.and_eq_true, decide_eq_true_eq] at work
  exact work.2

theorem advanceHeads_kept {autoUndo : Bool} {level : Nat} {got : List Half} (v : Half) (h : Kept r s)
    (hm : s.engine.mode = .scanning autoUndo level (.heads got)) :
    Kept r (advanceScanning v autoUndo level (.heads got) s) := by
  have stack (hr : StackLaws r) : Stacked s.engine := by
    obtain ⟨-, armed, -⟩ := (stackLaws_iff s).1 (h.stack hr)
    exact armed ⟨by simp [hm], by simp [hm]⟩
  have empty (hr : StackLaws r) : s.engine.fill = 0 := scanning_empty (h.stack hr) hm
  have hl (hr : StackLaws r) : level = s.engine.stack.length := scanning_level (h.stack hr) hm
  simp only [advanceScanning]
  split
  · exact kept_setMode rfl stack (fun hr => by simp [workFits, empty hr, hl hr]) (fun _ => rfl) nofun
  · exact headPhaseEnd_kept autoUndo _ (fun hr => ⟨stack hr, empty hr⟩) hl

theorem advanceScanning_kept {autoUndo : Bool} {level : Nat} {step : ScanStep} (v : Half) (h : Kept r s)
    (hm : s.engine.mode = .scanning autoUndo level step) : Kept r (advanceScanning v autoUndo level step s) := by
  have hl (hr : StackLaws r) : level = s.engine.stack.length := scanning_level (h.stack hr) hm
  have work (hr : StackLaws r) : workFits s.engine = true := (h.stack hr).2.2
  simp only [workFits, hm, Bool.and_eq_true] at work
  cases step with
  | heads got => exact advanceHeads_kept v h hm
  | header got =>
    have f : InForce r s := h.inForce (by rw [hm]; rfl)
    have room (hr : StackLaws r) : s.engine.fill < s.engine.slots := of_decide_eq_true (work hr).2
    cases got with
    | nil => exact scanKind_kept autoUndo v f hl room
    | cons k rest =>
      simp only [advanceScanning]
      split
      · exact setScanning_kept autoUndo f hl nofun room
      · exact scanHeader_kept autoUndo _ f hl room
  | data x got =>
    have f : InForce r s := h.inForce (by rw [hm]; rfl)
    have room (hr : StackLaws r) : s.engine.fill < s.engine.slots := of_decide_eq_true (work hr).2
    simp only [advanceScanning]
    split
    · exact setScanning_kept autoUndo f hl nofun room
    · exact scanData_kept autoUndo x _ f hl room
  | voiding k reason =>
    have f : InForce r s := h.inForce (by rw [hm]; rfl)
    simp only [advanceScanning]
    split
    · exact f.setMode rfl (fun _ => rfl) fun hr => by simp [workFits, hl hr]
    · exact resumeEnd_kept autoUndo reason f

/-- R139: the completion of an engine access keeps the engine's laws. -/
theorem advance_kept (v : Half) (h : Kept r s) : Kept r (advance v s) := by
  unfold advance
  split
  case h_1 => exact h
  case h_2 hm => exact advanceArming_kept v h hm
  case h_3 => exact h
  case h_4 hm => exact advanceSaving_kept v h hm
  case h_5 hm => exact advanceMarking_kept h hm
  case h_6 hm => exact advanceReleasing_kept h hm
  case h_7 hm => exact advanceUndoing_kept v h hm
  case h_8 hm => exact advanceCommitting_kept h hm
  case h_9 hm => exact advanceDisarming_kept h hm
  case h_10 hm => exact advanceRecording_kept h hm
  case h_11 hm => exact advanceBreaking_kept h hm
  case h_12 => exact h
  case h_13 => exact h
  case h_14 hm => exact advanceScanning_kept v h hm

/-! ## The sweeps -/

/-- R31: the four sweeps that clear the map, and what each goes on to. -/
theorem clearSweep_cases {t : State} (h : clearSweep s = some t) :
    (∃ epoch, s.engine.mode = .arming (.build epoch .sweep) ∧
      t = setMode (.arming (.build epoch (buildAfterSweep epoch s))) (clearMap s)) ∨
    (∃ epoch, s.engine.mode = .committing epoch .sweep ∧
      t = setMode (.committing epoch (buildAfterSweep epoch s)) (clearMap s)) ∨
    (∃ w, s.engine.mode = .disarming .sweep ∧ t = setMode (.disarming (.writeHead w)) (clearMap s)) ∨
    (s.engine.mode = .breaking .sweep ∧ t = endInBroken (clearMap s)) := by
  cases hm : s.engine.mode with
  | arming step =>
    rcases step with got | ⟨epoch, _ | k | w⟩ <;> simp only [clearSweep, hm, reduceCtorEq] at h
    exact .inl ⟨epoch, rfl, (Option.some.inj h).symm⟩
  | committing epoch step =>
    rcases step with _ | k | w <;> simp only [clearSweep, hm, reduceCtorEq] at h
    exact .inr (.inl ⟨epoch, rfl, (Option.some.inj h).symm⟩)
  | disarming step =>
    rcases step with _ | w <;> simp only [clearSweep, hm, reduceCtorEq] at h
    exact .inr (.inr (.inl ⟨_, rfl, (Option.some.inj h).symm⟩))
  | breaking step =>
    rcases step with _ | w <;> simp only [clearSweep, hm, reduceCtorEq] at h
    exact .inr (.inr (.inr ⟨rfl, (Option.some.inj h).symm⟩))
  | _ => simp only [clearSweep, hm, reduceCtorEq] at h

theorem clearSweep_kept {t : State} (h : Kept r s) (ht : clearSweep s = some t) : Kept r t := by
  have cleared (f : InForce r s) : InForce r (clearMap s) := f.of_same ⟨rfl, rfl, rfl, rfl, rfl, rfl⟩
  rcases clearSweep_cases ht with ⟨epoch, hm, rfl⟩ | ⟨epoch, hm, rfl⟩ | ⟨w, hm, rfl⟩ | ⟨hm, rfl⟩
  · have armed : s.engine.mode ≠ .off ∧ s.engine.mode ≠ .broken := by simp [hm]
    refine setArming_kept _ (fun hr => ?_) (fun hr => ?_) fun ha hr => h.cover ha hr armed.1 (by rw [hm]; rfl)
    · obtain ⟨-, stacked, -⟩ := (stackLaws_iff s).1 (h.stack hr)
      obtain ⟨form, top, room⟩ := stacked armed
      exact ⟨form, top, room⟩
    · have := h.epoch hr
      rw [EpochLaw, hm] at this
      exact bne_iff_ne.1 this
  · exact setCommitting_kept _ (cleared (h.inForce (by rw [hm]; rfl))) (committing_epoch h hm)
  · exact (cleared (h.inForce (by rw [hm]; rfl))).setMode rfl (fun _ => rfl) fun _ => rfl
  · exact endInBroken_kept (cleared (h.inForce (by rw [hm]; rfl)))

theorem relabelSweep_kept {t : State} (h : Kept r s) (ht : relabelSweep s = some t) : Kept r t := by
  unfold relabelSweep at ht
  split at ht
  · rename_i hm
    cases ht
    have f : InForce r s := h.inForce (by rw [hm]; rfl)
    have relabelled : InForce r { s with touch := TouchMap.relabel s.touch s.engine.depth } :=
      f.of_same ⟨rfl, rfl, rfl, rfl, rfl, rfl⟩
    exact relabelled.setMode rfl (fun _ => rfl) fun hr => decide_eq_true (releasing_depth (h.stack hr) hm)
  · cases ht

end Law

end Sys2Proof.Machine
end


section
/-! SUPPORT. The engine's laws over the host bus, the request lines, the link's commands, reset and supply, and so over
every step. -/

namespace Sys2Proof.Machine

open Sys2Proof.Safety

section Law
variable {r s t : State}

/-! ## The host bus -/

theorem watchRecord_kept (a : HostAccess) (data : Half) (h : Kept r s) : Kept r (watchRecord a data s) := by
  unfold watchRecord
  split
  · exact h
  · exact h.of_engine (by simp) (by simp)

theorem forwardDone_kept (a : HostAccess) (v : Half) (h : Kept r s) : Kept r (forwardDone a v s) := by
  have watched (data : Half) := watchRecord_kept a data h
  exact savingServed_kept ((watched _).of_engine rfl rfl)

theorem expireHold_kept (a : HostAccess) (h : Kept r s) : Kept r (expireHold a s) :=
  savingServed_kept (h.of_engine (by simp) (by simp))

theorem arriveClassified_kept (a : HostAccess) (h : Kept r s) : Kept r (arriveClassified a s) := by
  have taken : Kept r (takeArrival a s) := h.of_engine rfl rfl
  exact (taken.treated (treat_treated a a.addr a.dir _)).settle

theorem arrive_kept (addr : HalfAddr) (st : Strobes) (l u : Bool) (d : Half) (h : Kept r s) :
    Kept r (arrive addr st l u d s) := by
  cases st with
  | both => exact h.of_engine rfl rfl
  | read =>
    simp only [arrive]
    split
    · exact arriveClassified_kept _ h
    · exact h.of_engine rfl rfl
  | write =>
    simp only [arrive]
    split
    · exact arriveClassified_kept _ h
    · exact h.of_engine rfl rfl

/-! ## Resting states by their names -/

theorem mode_of_name_active {m : Mode} (h : m.name = .active) : m = .active := by cases m <;> cases h; rfl

theorem mode_of_name_off {m : Mode} (h : m.name = .off) : m = .off := by cases m <;> cases h; rfl

theorem mode_of_restsArmed {m : Mode} (h : restsArmed m.name = true) : m = .active ∨ m = .broken ∨ m = .halted := by
  cases m with
  | active => exact .inl rfl
  | broken => exact .inr (.inl rfl)
  | halted => exact .inr (.inr rfl)
  | _ => cases h

/-- R35, R177: the state test passes in the resting states that take the command. -/
theorem stateTest_eq_none_iff (taken : StateName → Bool) (n : StateName) :
    stateTest taken n = none ↔ n.resting = true ∧ taken n = true := by
  unfold stateTest
  cases n.resting <;> cases taken n <;> simp

/-! ## The request lines -/

/-- R66 to R68: a request in an operation state stays pending. -/
theorem setPending_kept (h : Kept r s) (hn : s.engine.mode.name.resting = false) (mark undo : Bool) :
    Kept r { s with engine := { s.engine with markPending := mark, undoPending := undo } } where
  stack := h.stack
  pending _ hr := by
    have hr : s.engine.mode.name.resting = true := hr
    rw [hn] at hr
    cases hr
  epoch := h.epoch
  cover := h.cover

/-- R59, R66: a MARK of the line in ACTIVE. -/
theorem markRequest_kept (h : Kept r s) (hm : s.engine.mode = .active) : Kept r (markRequest s) := by
  have refused (x : MarkTest) : Kept r (refuseMarkRequest x s) := by
    obtain ⟨he, hr⟩ := refuseMarkRequest_core x s
    exact h.of_engine he hr
  unfold markRequest
  split
  · exact beginMark_kept (h.inForce (by rw [hm]; rfl)) _ ‹_›
  · exact refused _
  · exact refused _

theorem markEdge_kept (h : Kept r s) : Kept r (markEdge s) := by
  unfold markEdge
  dsimp only
  split
  · exact markRequest_kept h (mode_of_name_active ‹_›)
  · split
    · exact h.of_engine rfl rfl
    · rename_i hn
      split
      · exact h.of_engine rfl rfl
      · exact setPending_kept h (by simpa using hn) true s.engine.undoPending

theorem undoEdge_kept (h : Kept r s) : Kept r (undoEdge s) := by
  unfold undoEdge
  dsimp only
  split
  · rename_i hn
    exact beginUndo_kept (h.inForce (by rw [mode_of_name_active hn]; rfl)) fun _ => nofun
  · split
    · exact h.of_engine rfl rfl
    · rename_i hn
      split
      · exact h.of_engine rfl rfl
      · exact setPending_kept h (by simpa using hn) s.engine.markPending true

/-! ## The link's commands -/

theorem respond_kept (code : Byte) (st : Status) (data : List Byte) (h : Kept r s) : Kept r (respond code st data s) :=
  h.of_engine rfl rfl

theorem accepted_kept {begins : State → State} (code : Byte) (h : Kept r (begins s)) :
    Kept r (accepted code begins s) := (respond_kept _ _ _ h).settle

/-- R35: a command that is not taken only answers. -/
theorem gated_kept {code : Byte} {taken : StateName → Bool} {act : State → State} (h : Kept r s)
    (hact : taken s.engine.mode.name = true → Kept r (act s)) : Kept r (gated code taken act s) := by
  unfold gated
  split
  · exact respond_kept _ _ _ h
  · exact hact ((stateTest_eq_none_iff _ _).1 ‹_›).2

/-- R172, R174: a frame keeps the laws when its command does. -/
theorem takeFrame_kept (bytes : List Byte) (crc : Byte) {act : State → State} (h : ∀ x, Kept x (act x)) :
    Kept s (takeFrame bytes crc act s) := by
  have he : (openFrame s).engine = s.engine := by rw [openFrame_eq]; simp
  have hr : (openFrame s).regions = s.regions := by rw [openFrame_eq]; simp
  unfold takeFrame
  dsimp only
  split
  · split
    · exact (h _).rebase he hr
    · exact (Kept.refl s).of_engine he hr
  · exact .refl s

/-- R43: what ARM's tests say of the area. -/
theorem armTest_uncovered (ha : SameArea s) (h : armTest s = true) : Uncovered s := by
  obtain ⟨hbase, hslots⟩ := ha
  simp only [armTest, Bool.and_eq_true, Bool.not_eq_true', tableOverlaps, List.any_eq_false, hbase, hslots] at h
  obtain ⟨-, apart⟩ := h
  exact fun i => by simpa using apart _ (by simp [Vector.get_eq_getElem])

/-- R45, R58: the base alone over an uncovered area. -/
theorem beginArm_kept (h : SameArea r → OverlapLaw r → Uncovered s) : Kept r (beginArm s) := by
  have arming : Kept r (setMode (.arming (.readHeads [])) (baseAlone s)) :=
    kept_setMode rfl (fun _ => stacked_baseAlone s) (fun _ => rfl) (fun _ => rfl) fun _ => h
  exact arming.reclassifyWaiting

theorem takeArm_kept (s : State) : Kept s (takeArm s) := by
  refine gated_kept (.refl s) fun _ => ?_
  split
  · exact accepted_kept _ (beginArm_kept fun ha _ => armTest_uncovered ha ‹_›)
  · exact respond_kept _ _ _ (.refl s)

/-- R109: the head phase begins over the base alone. -/
theorem enterScanning_kept (r : State) (autoUndo : Bool) (s : State) : Kept r (enterScanning autoUndo s) := by
  have scanning : Kept r (setMode (.scanning autoUndo 1 (.heads [])) (baseAlone s)) :=
    kept_setMode rfl (fun _ => stacked_baseAlone s) (fun _ => rfl) (fun _ => rfl) nofun
  exact scanning.of_same ⟨⟨rfl, rfl, rfl, rfl, rfl, rfl⟩, rfl, rfl, rfl⟩

theorem takeResume_kept (option : Byte) (s : State) : Kept s (takeResume option s) := by
  refine gated_kept (.refl s) fun _ => ?_
  split
  · exact accepted_kept _ (enterScanning_kept s _ s).reclassifyWaiting
  · exact respond_kept _ _ _ (.refl s)

theorem disarmUndo_kept {u : UndoWork} (hm : s.engine.mode = .undoing u) : Kept s (disarmUndo u s) := by
  have f : InForce s s := (Kept.refl s).inForce (by rw [hm]; rfl)
  have asked : Kept s (setMode (.undoing { u with disarm := true }) s) := by
    refine f.setMode rfl (fun _ => rfl) fun hr => ?_
    obtain ⟨⟨target, walk, drop, keep⟩, above⟩ := (workFits_undoing hm).1 hr.2.2
    exact (workFits_undoing (u := { u with disarm := true }) rfl).2 ⟨⟨target, walk, drop, keep⟩, above⟩
  unfold disarmUndo
  split
  · exact respond_kept _ _ _ (.refl s)
  · split
    · exact respond_kept _ _ _ asked
    · exact accepted_kept _ (undoAborted_kept f)

theorem takeDisarm_kept (s : State) : Kept s (takeDisarm s) := by
  unfold takeDisarm
  split
  · exact disarmUndo_kept ‹_›
  · exact gated_kept (.refl s) fun ht => accepted_kept _ (beginDisarm_kept (.refl s) (mode_of_restsArmed ht))

theorem takeCommit_kept (s : State) : Kept s (takeCommit s) :=
  gated_kept (.refl s) fun ht => accepted_kept _ (beginCommit_kept (.refl s) (mode_of_restsArmed ht))

/-- R35: a command of ACTIVE finds the journal in force. -/
theorem inForce_of_active (hn : (s.engine.mode.name == .active) = true) : InForce s s :=
  (Kept.refl s).inForce (by rw [mode_of_name_active (beq_iff_eq.1 hn)]; rfl)

theorem takeMark_kept (label : Half) (s : State) : Kept s (takeMark label s) := by
  refine gated_kept (.refl s) fun hn => ?_
  unfold markTested
  split
  · exact respond_kept _ _ _ (.refl s)
  · exact (Kept.refl s).of_engine rfl rfl
  · exact accepted_kept _ (beginMark_kept (inForce_of_active hn) _ ‹_›)

theorem takeRelease_kept (s : State) : Kept s (takeRelease s) := by
  refine gated_kept (.refl s) fun hn => ?_
  split
  · exact respond_kept _ _ _ (.refl s)
  · rename_i deep
    have releasing : Kept s (setMode (.releasing .sweep) s) :=
      (inForce_of_active hn).setMode rfl (fun _ => rfl) fun _ => decide_eq_true (Nat.lt_of_not_le deep)
    exact accepted_kept _ releasing.reclassifyWaiting

theorem takeUndo_kept (option : Byte) (s : State) : Kept s (takeUndo option s) := by
  refine gated_kept (.refl s) fun hn => ?_
  have f := inForce_of_active hn
  unfold undoTested
  split
  · exact accepted_kept _ (beginUndo_kept f fun _ => nofun)
  · split
    · split
      · exact respond_kept _ _ _ (.refl s)
      · rename_i deep
        exact accepted_kept _ (beginUndo_kept f fun _ _ => Nat.lt_of_not_le deep)
    · exact respond_kept _ _ _ (.refl s)

/-- R38, R147, R150: in OFF the area and the table may change under the laws. -/
theorem kept_of_off (h : Kept r s) (hm : s.engine.mode = .off) {t : State} (mode : t.engine.mode = .off)
    (fill : t.engine.fill = s.engine.fill) (stack : t.engine.stack = s.engine.stack)
    (mark : t.engine.markPending = s.engine.markPending) (undo : t.engine.undoPending = s.engine.undoPending) :
    Kept r t where
  stack hr := by
    obtain ⟨resting, -, -⟩ := (stackLaws_iff s).1 (h.stack hr)
    refine (stackLaws_iff t).2 ⟨fun _ => by rw [fill, stack]; exact resting (.inl hm), fun h => (h.1 mode).elim, ?_⟩
    rw [workFits, mode]
  pending hr _ := by
    rw [mark, undo]
    exact h.pending hr (by rw [hm]; rfl)
  epoch _ := by
    rw [EpochLaw, mode]
    rfl
  cover _ _ hoff := (hoff mode).elim

theorem takeSetArea_kept (base slots : Half) (s : State) : Kept s (takeSetArea base slots s) := by
  refine gated_kept (.refl s) fun hn => ?_
  have hm := mode_of_name_off (beq_iff_eq.1 hn)
  split
  · have moved : Kept s (setAreaValues base.toNat slots.toNat s) := kept_of_off (.refl s) hm hm rfl rfl rfl rfl
    exact (respond_kept _ _ _ moved.reclassifyWaiting).settle
  · exact respond_kept _ _ _ (.refl s)

/-- R146: an entry that does not overlap the area leaves it uncovered. -/
theorem setRegion_uncovered {i : Fin 8} {e : Region} (h : Uncovered s)
    (he : overlapsArea s.engine.base s.engine.slots e = false) : Uncovered (setRegion i e s) := by
  intro j
  simp only [setRegion, Vector.get_eq_getElem, Vector.getElem_set]
  split
  · exact he
  · exact h j

theorem regionTaken_kept {i : Fin 8} {e : Region} (hm : s.engine.mode = .off ∨ s.engine.mode = .active)
    (he : ¬ (s.engine.mode = .active ∧ overlapsArea s.regions.areaBase s.regions.areaSlots e = true)) :
    Kept s (regionTaken i e s) := by
  unfold regionTaken
  split
  · rename_i hoff
    have written : Kept s (setRegion i e s) := kept_of_off (.refl s) hoff hoff rfl rfl rfl rfl
    exact (respond_kept _ _ _ written.reclassifyWaiting).settle
  · rename_i hon
    have hact := hm.resolve_left hon
    obtain ⟨stack, epoch, cover⟩ : InForce s s := (Kept.refl s).inForce (by rw [hact]; rfl)
    have written : InForce s (setRegion i e s) := by
      refine ⟨fun hr => ?_, epoch, fun ha hr => setRegion_uncovered (cover ha hr) ?_⟩
      · obtain ⟨form, top, room⟩ := stack hr
        exact ⟨form, top, room⟩
      · obtain ⟨hbase, hslots⟩ := ha
        rw [← hbase, ← hslots, Bool.eq_false_iff]
        exact fun hover => he ⟨hact, hover⟩
    have recording : Kept s (setMode (.recording (newHeadWrite stateArmed s.engine.epoch (setRegion i e s)))
        (setRegion i e s)) := written.setMode rfl (fun _ => rfl) fun _ => rfl
    exact accepted_kept _ recording.reclassifyWaiting

theorem takeWriteRegion_kept (index mode : Byte) (base length : Half) (s : State) :
    Kept s (takeWriteRegion index mode base length s) := by
  refine gated_kept (.refl s) fun hn => ?_
  have hm : s.engine.mode = .off ∨ s.engine.mode = .active := by
    simp only [regionStates, Bool.or_eq_true, Bool.and_eq_true, beq_iff_eq] at hn
    exact hn.imp mode_of_name_off fun h => mode_of_name_active h.1
  unfold regionTested
  split
  · split
    · exact respond_kept _ _ _ (.refl s)
    · split
      · exact respond_kept _ _ _ (.refl s)
      · exact regionTaken_kept hm ‹_›
  · exact respond_kept _ _ _ (.refl s)

theorem takeOptions_kept (select holdLimit policy : Byte) (highMark : Half) (enables : Byte) (s : State) :
    Kept s (takeOptions select holdLimit policy highMark enables s) := by
  unfold takeOptions
  split
  · exact respond_kept _ _ _ (.refl s)
  · dsimp only
    split
    · split
      · exact (Kept.refl s).of_same ⟨⟨rfl, rfl, rfl, rfl, rfl, rfl⟩, rfl, rfl, rfl⟩
      · exact (Kept.refl s).of_same ⟨⟨rfl, rfl, rfl, rfl, rfl, rfl⟩, rfl, rfl, rfl⟩
    · exact (Kept.refl s).of_same ⟨⟨rfl, rfl, rfl, rfl, rfl, rfl⟩, rfl, rfl, rfl⟩

/-! ## Commands that leave the engine and the regions alone -/

theorem beginSeries_kept (code : Byte) (start : HalfAddr) (total : Nat) (s : State) :
    Kept s (beginSeries code start total s) := by
  refine Kept.grant ?_
  exact (Kept.refl s).of_engine rfl rfl

theorem takeReadSlot_kept (index : Half) (s : State) : Kept s (takeReadSlot index s) := by
  unfold takeReadSlot
  split
  · exact beginSeries_kept _ _ _ s
  · exact respond_kept _ _ _ (.refl s)

theorem takeReadHead_kept (copy : Byte) (s : State) : Kept s (takeReadHead copy s) := by
  unfold takeReadHead
  split
  · exact beginSeries_kept _ _ _ s
  · split
    · exact beginSeries_kept _ _ _ s
    · exact respond_kept _ _ _ (.refl s)

theorem takeFetch_kept (s : State) : Kept s (takeFetch s) := by
  unfold takeFetch
  split <;> exact (Kept.refl s).of_engine rfl rfl

theorem takeCauseLevel_kept (cause level : Byte) (s : State) : Kept s (takeCauseLevel cause level s) := by
  unfold takeCauseLevel
  split
  · split <;> exact (Kept.refl s).of_engine rfl rfl
  · exact respond_kept _ _ _ (.refl s)

theorem takeThreshold_kept (threshold : Byte) (s : State) : Kept s (takeThreshold threshold s) := by
  unfold takeThreshold
  split <;> exact (Kept.refl s).of_engine rfl rfl

theorem takeReadRegion_kept (index : Byte) (s : State) : Kept s (takeReadRegion index s) := by
  unfold takeReadRegion
  split <;> exact respond_kept _ _ _ (.refl s)

theorem endSeries_kept (h : Kept r s) : Kept r (endSeries s) := by
  unfold endSeries
  split
  · exact h
  · exact h.of_engine rfl rfl

theorem closeFrame_kept (h : Kept r s) : Kept r (closeFrame s) := (endSeries_kept h).of_engine rfl rfl

theorem openFrame_kept (h : Kept r s) : Kept r (openFrame s) := (closeFrame_kept h).of_engine rfl rfl

theorem answerUnknown_kept (code : Byte) (s : State) : Kept s (answerUnknown code s) := by
  unfold answerUnknown
  split
  · exact (openFrame_kept (.refl s)).of_engine rfl rfl
  · exact .refl s

theorem statusDue_kept (code : Byte) (x : Reader) (s : State) : Kept s (statusDue code x s) := by
  unfold statusDue
  dsimp only
  split <;> exact respond_kept _ _ _ (endSeries_kept (.refl s))

theorem seriesRead_kept (v : Half) (h : Kept r s) : Kept r (seriesRead v s) := by
  unfold seriesRead
  split
  · exact h
  · exact h.of_engine rfl rfl

/-! ## Reset and supply -/

theorem enterReset_kept (s : State) : Kept s (enterReset s) := by
  obtain ⟨-, he, -, hr, -⟩ := cutAccess_frame s
  have cut : Kept s (cutAccess s) := (Kept.refl s).of_engine he hr
  exact ⟨cut.stack, fun _ _ => ⟨rfl, rfl⟩, cut.epoch, cut.cover⟩

/-- R42, R107: the release leaves the engine in OFF, or in the head phase over the base alone. -/
theorem startStraps_kept (r : State) (jsel : BitVec 4) (autoUndo m u n : Bool) (s : State) :
    Kept r (startStraps jsel autoUndo (releaseValues m u n s)) := by
  unfold startStraps
  split
  · exact ⟨fun _ => ⟨fun _ => ⟨rfl, rfl⟩, fun h => absurd rfl h.1, rfl⟩, fun _ _ => ⟨rfl, rfl⟩,
      fun _ => rfl, fun _ _ hoff => absurd rfl hoff⟩
  · exact (enterScanning_kept r _ _).settle

theorem exec_power_kept {c : Instr} (hc : movesPower c = true) (h : exec c s = .next t) : Kept s t := by
  rcases exec_power hc h with rfl | ⟨-, rfl⟩ | ⟨-, rfl⟩ | ⟨j, a, m, u, n, rfl⟩
  · exact .refl _
  · exact enterReset_kept s
  · obtain ⟨-, he, -, hr, -⟩ := cutAccess_frame s
    exact (Kept.refl s).of_engine he hr
  · exact startStraps_kept s j a m u n s

/-! ## Every command -/

/-- R172, R175: the commands of a frame. -/
theorem exec_frame_kept {c : Instr} (h : exec c s = .next t) (hc : crcByte c ≠ none) : Kept s t := by
  cases c with
  | unknownCommand code next =>
    simp only [exec, execUnknownCommand] at h
    split at h
    · cases h
    · cases h
      exact answerUnknown_kept code s
  | status crc =>
    cases h
    exact takeFrame_kept _ _ fun x => respond_kept _ _ _ (.refl x)
  | fetchCause crc =>
    cases h
    exact takeFrame_kept _ _ takeFetch_kept
  | clearCauses mask crc =>
    cases h
    exact takeFrame_kept _ _ fun x => (Kept.refl x).of_engine rfl rfl
  | setCauseLevel cause level crc =>
    cases h
    exact takeFrame_kept _ _ (takeCauseLevel_kept cause level)
  | setThreshold threshold crc =>
    cases h
    exact takeFrame_kept _ _ (takeThreshold_kept threshold)
  | readRecord crc =>
    cases h
    exact takeFrame_kept _ _ fun x => (Kept.refl x).of_engine rfl rfl
  | writeRegion index mode base length crc =>
    cases h
    exact takeFrame_kept _ _ (takeWriteRegion_kept index mode base length)
  | readRegion index crc =>
    cases h
    exact takeFrame_kept _ _ (takeReadRegion_kept index)
  | setArea base slots crc =>
    cases h
    exact takeFrame_kept _ _ (takeSetArea_kept base slots)
  | setOptions select holdLimit policy highMark enables crc =>
    cases h
    exact takeFrame_kept _ _ (takeOptions_kept select holdLimit policy highMark enables)
  | arm crc =>
    cases h
    exact takeFrame_kept _ _ takeArm_kept
  | disarm crc =>
    cases h
    exact takeFrame_kept _ _ takeDisarm_kept
  | mark label crc =>
    cases h
    exact takeFrame_kept _ _ (takeMark_kept label)
  | release crc =>
    cases h
    exact takeFrame_kept _ _ takeRelease_kept
  | undo option crc =>
    cases h
    exact takeFrame_kept _ _ (takeUndo_kept option)
  | commit crc =>
    cases h
    exact takeFrame_kept _ _ takeCommit_kept
  | resume option crc =>
    cases h
    exact takeFrame_kept _ _ (takeResume_kept option)
  | readSlot index crc =>
    cases h
    exact takeFrame_kept _ _ (takeReadSlot_kept index)
  | readHead copy crc =>
    cases h
    exact takeFrame_kept _ _ (takeReadHead_kept copy)
  | _ => exact absurd rfl hc

theorem exec_kept {c : Instr} (h : exec c s = .next t) : Kept s t := by
  have same : Kept s s := .refl s
  cases c with
  | resetAssert | resetRelease | supplyLoss => exact exec_power_kept rfl h
  | hostAccessArrive addr st l u d =>
    cases h
    have asserted : Kept s (setCycle true s) := same.of_engine rfl rfl
    split
    · exact same
    · split
      · exact asserted
      · exact arrive_kept addr st l u d asserted
  | hostCycleEnd | nssRiseAfterRelease =>
    cases h
    split
    · exact same.of_engine rfl rfl
    · exact same
  | forwardComplete =>
    cases h
    split
    · split
      · have freed : Kept s (releasePort .forward s) := same.of_engine rfl rfl
        exact (forwardDone_kept _ _ freed).settle
      · exact same
    · exact same
  | holdTimerExpire =>
    cases h
    split
    · split
      · exact (expireHold_kept _ same).settle
      · exact same
    · exact same
  | engineAccessComplete =>
    cases h
    split
    · split
      · have freed : Kept s (releasePort .engine s) := same.of_engine rfl rfl
        exact (advance_kept _ freed).settle
      · exact same
    · exact same
  | clearSweepComplete =>
    cases h
    split
    · split
      · exact (clearSweep_kept same ‹_›).settle
      · exact same
    · exact same
  | relabelSweepComplete =>
    cases h
    split
    · split
      · exact (relabelSweep_kept same ‹_›).settle
      · exact same
    · exact same
  | linkReadComplete =>
    cases h
    have freed : Kept s (releasePort .link s) := same.of_engine rfl rfl
    split
    · split
      · refine Kept.grant ?_
        split
        · exact freed
        · exact seriesRead_kept _ freed
      · exact same
    · exact same
  | linkReadStatusDue =>
    cases h
    split
    · split
      · exact statusDue_kept _ _ s
      · exact same
    · exact same
  | markReqEdge =>
    cases h
    split
    · exact same
    · have high : Kept s (setMarkLine true s) := same.of_same ⟨⟨rfl, rfl, rfl, rfl, rfl, rfl⟩, rfl, rfl, rfl⟩
      dsimp only
      split
      · exact (markEdge_kept high).settle
      · exact high
  | undoReqEdge =>
    cases h
    split
    · exact same
    · have high : Kept s (setUndoLine true s) := same.of_same ⟨⟨rfl, rfl, rfl, rfl, rfl, rfl⟩, rfl, rfl, rfl⟩
      dsimp only
      split
      · exact (undoEdge_kept high).settle
      · exact high
  | requestLineFall line =>
    cases h
    split
    · exact same
    · cases line with
      | mark | undo => exact same.of_same ⟨⟨rfl, rfl, rfl, rfl, rfl, rfl⟩, rfl, rfl, rfl⟩
  | linkShortFrame =>
    cases h
    split
    · exact (closeFrame_kept same).of_engine rfl rfl
    · exact same
  | linkFrameCut =>
    cases h
    split
    · exact closeFrame_kept same
    · exact same
  | unknownCommand | status | fetchCause | clearCauses | setCauseLevel | setThreshold | readRecord | writeRegion
  | readRegion | setArea | setOptions | arm | disarm | mark | release | undo | commit | resume | readSlot | readHead =>
    exact exec_frame_kept h nofun

/-- The queue is no part of the laws. -/
theorem step_kept (h : step s = .next t) : Kept s t := by
  rcases step_cases h with rfl | ⟨c, rest, h⟩
  · exact .refl _
  · exact (exec_kept h).rebase rfl rfl

end Law

end Sys2Proof.Machine

open Sys2Proof Sys2Proof.Machine Sys2Proof.Safety

/-- Settles O11: every command keeps the stack's part of `Kept`, operation by operation. -/
theorem stepKeepsStack : Obligations.StepKeepsStack := fun _ _ hs h => (step_kept h).stack hs

/-- Settles O12: every command keeps the other three parts of `Kept`; the overlap law rests on the region block's copy
of the area (R150). -/
theorem stepKeepsPendingEpochAndCover : Obligations.StepKeepsPendingEpochAndCover := by
  refine ⟨fun _ _ hs h => (step_kept h).pending hs, fun _ _ hs h => (step_kept h).epoch hs, fun s _ hb ho h => ?_⟩
  obtain ⟨-, -, hbase, hslots, -⟩ := hb
  exact (step_kept h).cover ⟨hbase, hslots⟩ ho
end


section
/-! PROOFS. The state after reset, the release, and the causes (R42, R107, R155 to R159). -/

namespace Sys2Proof.Machine

open Sys2Proof.Safety

/-! ## Reset -/

/-- R153: every region entry after reset is in range. -/
theorem inRange_reset (i : Fin 8) : inRange (State.reset.regions.entries.get i) := by
  have : State.reset.regions.entries.get i = Region.afterReset := by simp [State.reset, Vector.get_eq_getElem]
  rw [this]
  decide

theorem blockLaws_reset : BlockLaws State.reset :=
  ⟨Nat.zero_le _, inRange_reset, rfl, rfl, Nat.zero_le _, .inl rfl, Nat.zero_le _⟩

theorem stackLaws_reset : StackLaws State.reset := ⟨fun _ => ⟨rfl, rfl⟩, fun h => absurd rfl h.1, rfl⟩

/-- R137, R142, R168: after reset no block has a request, an access or a frame. -/
theorem portLaw_reset : PortLaw State.reset := fun _ =>
  ⟨rfl, rfl, rfl, rfl, nofun, nofun, rfl, nofun⟩

theorem shieldLaw_reset : ShieldLaw State.reset := ⟨nofun, fun _ hoff => absurd rfl hoff⟩

theorem savedLaw_reset : SavedLaw State.reset := ⟨rfl, fun _ hoff => absurd rfl hoff⟩

/-- R107: a strap places the base at a multiple of 64 KiB, whose head begins at a multiple of 32768 halfwords. -/
theorem headAddr_strap (n : Nat) : headAddr (64 * n) .a 0 = BitVec.ofNat 19 (32768 * n) := by
  unfold headAddr
  congr 1
  dsimp only
  omega

/-- R107: the first access of a resume is the read of copy A's first halfword. -/
theorem wanted_strapped (n : Nat) (autoUndo : Bool) (s : State) :
    (enterScanning autoUndo (setAreaValues (64 * n) 0 s)).engine.wanted
      = some (readAt (BitVec.ofNat 19 (32768 * n))) :=
  congrArg (some ∘ readAt) (headAddr_strap n)

/-- R157, R163: neither level cause's condition holds at the entry to the head phase with no high mark set. -/
theorem renew_strapped (base : Nat) (autoUndo m u n : Bool) (s : State) :
    (renew (enterScanning autoUndo (setAreaValues base 0 (releaseValues m u n s)))).causes = State.reset.causes := by
  have held : heldLatches (enterScanning autoUndo (setAreaValues base 0 (releaseValues m u n s))) = 0#16 := by
    simp [heldLatches, haltedHolds, highHolds, enterScanning, baseAlone, releaseValues, Engine.afterReset]
  have followed : CauseUnit.follow { State.reset.causes with latches := 0#16 ||| 0#16 } = State.reset.causes := by
    decide
  rw [renew_causes, held]
  exact followed

/-- R42, R107: a release is one of a part that does not run. -/
theorem exec_resetRelease_stopped {s : State} (hp : s.power ≠ .running) (jsel : BitVec 4)
    (autoUndo mark undo nss : Bool) : exec (.resetRelease jsel autoUndo mark undo nss) s
      = .next (startStraps jsel autoUndo (releaseValues mark undo nss s)) := by
  simp only [exec, execResetRelease]
  split
  · exact absurd ‹_› hp
  · rfl
  · rfl

/-! ## Causes -/

theorem causeNumbers : Claims.CauseNumbers := by
  refine ⟨by decide, fun c d => ?_⟩
  cases c <;> cases d <;> simp [causeNumber]

theorem causeEventLatches : Claims.CauseEventLatches := by
  rintro c s _ rfl
  refine ⟨rfl, rfl, rfl, fun n => ?_, alertLaw_of_follow rfl⟩
  have bit : (causeBit (causeNumber c)).getLsbD n.val = (n == causeNumber c) :=
    Bool.eq_iff_iff.2 ((getLsbD_causeBit_ite true _ _).trans (by simp [Fin.ext_iff]))
  simp only [raise, CauseUnit.follow, BitVec.getLsbD_or, bit]

theorem levelCauseConditions : Claims.LevelCauseConditions := by
  intro s n
  rw [getLsbD_heldLatches, haltedHolds, highHolds, beq_iff_eq, decide_eq_true_eq, and_comm, @and_comm _ (n.val = 12)]

end Sys2Proof.Machine

open Sys2Proof Sys2Proof.Machine Sys2Proof.Safety

/-- Settles O7: each invariant of the one state after reset, by the blocks it speaks of. -/
theorem resetMeetsInvariants : Obligations.ResetMeetsInvariants :=
  ⟨wf_reset_memory, alertLaw_of_reset rfl, fun _ => ⟨nofun, nofun⟩, blockLaws_reset, stackLaws_reset,
    fun _ => ⟨rfl, rfl⟩, touchLaw_of_empty rfl rfl, rfl, fun hoff => absurd rfl hoff, portLaw_reset,
    shieldLaw_reset, savedLaw_reset⟩

/-- Settles O19: the numbers by the table, the latch of an event and the held latches by their bits. -/
theorem causesLatch : Obligations.CausesLatch := ⟨causeNumbers, causeEventLatches, levelCauseConditions⟩

/-- Settles O21: the release's values as they stand, and with a strap the close of the event that enters SCANNING. -/
theorem resetReleaseCompletes : Obligations.ResetReleaseCompletes := by
  intro s jsel autoUndo mark undo nss hp t0
  have values : releaseValues mark undo nss s = t0 := rfl
  rw [exec_resetRelease_stopped hp, startStraps]
  by_cases hj : jsel = 0#4
  · rw [if_pos hj, if_pos (by simp [hj]), values]
  · have strapped : jsel.toNat ≠ 0 := fun h => hj (BitVec.eq_of_toNat_eq h)
    rw [if_neg hj, if_neg strapped, settle_engine (wanted_strapped _ _ _) rfl rfl rfl, renew_strapped]
    rfl
end


section
/-! PROOFS. The completion of a forward (R49, R125, R128, R136). -/

namespace Sys2Proof.Machine

open Sys2Proof.Safety

/-- R128: a WATCH record leaves the host port alone. -/
@[simp] theorem watchRecord_host (a : HostAccess) (data : Half) (s : State) :
    (watchRecord a data s).host = s.host := by
  unfold watchRecord
  split <;> simp

/-- R125: the answer of a completed access, withdrawn when the host has ended the cycle. -/
theorem answer_completed (data : Option Half) (a : HostAccess) (s : State) : answer true data a s
    = { s with host := { s.host with
        access := none, rdy := true, nBerr := true, dout := if a.abandoned then none else data } } := rfl

/-- R49, R136: the access is answered, and the write of a stored save ends the save. -/
theorem forwardDone_eq (a : HostAccess) (v : Half) (s : State) : forwardDone a v s
    = let noted := watchRecord a (if a.dir = .read then laneData a.lanes v else a.data) s
      let answered := answer true (if a.dir = .read then some (laneData a.lanes v) else none) a noted
      if saveStored s.engine.mode then enterActive answered else answered := by
  obtain ⟨-, he, -⟩ := watchRecord_frame a (if a.dir = .read then laneData a.lanes v else a.data) s
  rw [forwardDone, savingServed_eq]
  simp only [answer_completed, he]

theorem exec_of_forward {s : State} {b : PortBusy} {a : HostAccess} (hp : s.power = .running)
    (hb : s.port.busy = some b) (hw : b.who = .forward) (ha : s.host.access = some a) :
    exec .forwardComplete s = .next (settle (forwardDone a b.seen (portFreed .forward s))) := by
  simp only [exec, execForwardComplete, hp, hb, ha, hw]
  rfl

end Sys2Proof.Machine

open Sys2Proof Sys2Proof.Machine Sys2Proof.Safety

/-- Settles O26: the forward's end by its answer, with the record of a watched access made before it. -/
theorem forwardCompletes : Obligations.ForwardCompletes := by
  intro s b a hp hb hw ha returned freed noted answered
  have record : watchRecord a (if a.dir = .read then returned else a.data) (portFreed .forward s) = noted := by
    simp only [noted, freed, watchRecord]
    cases a.watch <;> rfl
  have host : noted.host = s.host := by
    rw [← record, watchRecord_host]
    rfl
  have ended : answer true (if a.dir = .read then some returned else none) a noted = answered := by
    rw [answer_completed, host]
  have lanes : laneData a.lanes b.seen = returned := rfl
  rw [exec_of_forward hp hb hw ha, forwardDone_eq, lanes]
  dsimp only
  rw [record, ended]
  rfl
end


section
/-! PROOFS. The addresses of head reads, of an undo, of a scan and of the wipe; the head reads of ARMING and the wipe
(R44, R45, R76 to R78, R95, R103, R104, R106, R110, R115). -/

namespace Sys2Proof.Machine

open Sys2Proof.Safety

/-- R2: a read of a slot's halfword i at its byte address, n bytes into the slot. -/
theorem slotRead_at_byte {base k : Nat} (i n : Nat) (h : n = 2 * i) : some (readAt (slotAddr base k i)) = some
      { addr := BitVec.ofNat 19 ((base * 1024 + 128 + 44 * k + n) / 2), data := none, lanes := bothLanes } := by
  rw [slotAddr_eq_byte, h]
  rfl

/-- R2, R115: a slot's data begin 12 bytes into it. -/
theorem slotDataRead_at_byte (base k n : Nat) : some (readAt (slotAddr base k (6 + n))) = some
      { addr := BitVec.ofNat 19 ((base * 1024 + 128 + 44 * k + 12 + 2 * n) / 2), data := none, lanes := bothLanes } :=
  (slotRead_at_byte (6 + n) (12 + 2 * n) (by omega)).trans (by rw [← Nat.add_assoc])

/-- R104, R106: a slot is voided by its first halfword. -/
theorem slotVoid_at_byte (base k : Nat) : some (writeAt (slotAddr base k 0) kindVoid) = some
      { addr := BitVec.ofNat 19 ((base * 1024 + 128 + 44 * k) / 2), data := some 0x0000#16, lanes := bothLanes } := by
  have first := slotWrite_at_byte (base := base) (k := k) 0 0 kindVoid rfl
  rwa [Nat.add_zero] at first

/-- R44, R110: the 64 head reads run through copy A and on into copy B, which follows it. -/
theorem headRead_at_byte (e : Engine) (n : Nat) : headRead e n
    = { addr := BitVec.ofNat 19 ((e.base * 1024 + 2 * n) / 2), data := none, lanes := bothLanes } := by
  have address : (if n < 32 then headAddr e.base .a n else headAddr e.base .b (n - 32))
      = BitVec.ofNat 19 ((e.base * 1024 + 2 * n) / 2) := by
    unfold headAddr
    split <;> congr 1 <;> dsimp only <;> omega
  rw [headRead, address]
  rfl

/-- R77: the restore writes go through the granule. -/
theorem restoreWrite_at_byte (g j : Nat) (v : Half) : some (writeAt (granuleAddr g j) v) = some
      { addr := BitVec.ofNat 19 ((g * 32 + 2 * j) / 2), data := some v, lanes := bothLanes } := by
  rw [granuleAddr_eq_byte]
  rfl

/-! ## ARMING's choice and the wipe -/

/-- R44: the halfwords of the newer valid copy of two. -/
def newerWords (a b : List Half) : Option (List Half) := (newerCopy a b).map fun c => match c with
  | .a => a
  | .b => b

/-- R7, R44, R103: what ARMING takes from the newer valid copy. -/
theorem armChoice_eq (a b : List Half) :
    nextEpoch (chosenEpoch a b) = (match newerWords a b with
      | none => 1#16
      | some ws => nextEpoch (word ws 2)) ∧
    chosenSequence a b = ((newerWords a b).map fun ws => word ws 1).getD 0#16 := by
  have first : nextEpoch 0#16 = 1#16 := by decide
  unfold newerWords chosenEpoch chosenSequence
  cases newerCopy a b with
  | none => exact ⟨first, rfl⟩
  | some c => cases c <;> exact ⟨rfl, rfl⟩

/-- R44: the head reads up to the 63rd, and the 64th. -/
theorem advanceArming_heads (v : Half) (got : List Half) (s : State) : advanceArming v (.readHeads got) s
    = if got.length < 63 then setMode (.arming (.readHeads (got ++ [v]))) s else armChoose (got ++ [v]) s := by
  have more : (got ++ [v]).length < 64 ↔ got.length < 63 := by
    rw [List.length_append, List.length_singleton]
    omega
  simp only [advanceArming, more]

theorem exec_arming {s : State} {v : Half} {step : ArmStep} (h : EngineAccess s v) (hm : s.engine.mode = .arming step) :
    exec .engineAccessComplete s = .next (settle (advanceArming v step (portFreed .engine s))) := by
  rw [exec_of_engineAccess h]
  simp only [advance, portFreed, hm]

theorem exec_committing {s : State} {v epoch : Half} {step : BuildStep} (h : EngineAccess s v)
    (hm : s.engine.mode = .committing epoch step) :
    exec .engineAccessComplete s = .next (settle (advanceCommitting epoch step (portFreed .engine s))) := by
  rw [exec_of_engineAccess h]
  simp only [advance, portFreed, hm]

end Sys2Proof.Machine

open Sys2Proof Sys2Proof.Machine Sys2Proof.Safety

/-- Settles O32: each operation's next access by its step, at the byte addresses of R2. -/
theorem readAndVoidSequences : Obligations.ReadAndVoidSequences := by
  intro e _
  refine ⟨fun got _ => ?_, fun u h got j _ _ _ _ => ?_, fun a l h got k r _ _ => ?_, fun epoch k _ => ?_⟩
  · exact ⟨congrArg some (headRead_at_byte _ _), fun a l => congrArg some (headRead_at_byte _ _)⟩
  · exact ⟨fun _ => slotRead_at_byte _ _ rfl, fun _ => slotDataRead_at_byte _ _ _, restoreWrite_at_byte _ _ _,
      slotVoid_at_byte _ _⟩
  · exact ⟨fun _ => slotRead_at_byte _ _ rfl, fun _ => slotDataRead_at_byte _ _ _, slotVoid_at_byte _ _⟩
  · exact ⟨slotVoid_at_byte _ _, slotVoid_at_byte _ _⟩

/-- Settles O36: the reads and the choice of ARMING, then one case for the wipe of each of the two operations. -/
theorem armReadsAndWipeAdvance : Obligations.ArmReadsAndWipeAdvance := by
  intro s v hacc freed inMode done
  refine ⟨fun got hm => ?_, fun epoch k => ⟨exec_arming hacc, exec_committing hacc⟩⟩
  · have reads := (exec_arming hacc hm).trans (congrArg (Host.Outcome.next ∘ settle) (advanceArming_heads v got _))
    refine ⟨fun hl => ?_, fun hl => ?_⟩
    · rw [if_pos hl] at reads
      exact reads
    · intro a b newer epoch
      have last : ¬ got.length < 63 := by omega
      have copies : (got ++ [v]).take 32 = a ∧ (got ++ [v]).drop 32 = b :=
        ⟨List.take_append_of_le_length (by omega), List.drop_append_of_le_length (by omega)⟩
      obtain ⟨hepoch, hseq⟩ := armChoice_eq a b
      have chosen : armChoose (got ++ [v]) (portFreed .engine s) = { freed with engine := { s.engine with
          mode := .arming (.build epoch .sweep)
          headSequence := (newer.map fun ws => word ws 1).getD 0#16
          current := newerCopy a b } } := by
        simp only [armChoose, takeHeadChoice, copies, hepoch, hseq]
        rfl
      rw [if_neg last] at reads
      exact reads.trans (congrArg (Host.Outcome.next ∘ settle) chosen)
end


section
/-! PROOFS. ARM and RESUME in OFF (R38, R43, R108, R109, R146, R182). -/

namespace Sys2Proof.Machine

open Sys2Proof.Safety

/-- R146: a table overlaps the area exactly when one of its eight entries does. -/
theorem tableOverlaps_iff (base slots : Nat) (t : Vector Region 8) :
    tableOverlaps base slots t = true ↔ ∃ i : Fin 8, overlapsArea base slots (t.get i) = true := by
  simp [tableOverlaps, Vector.any_eq_true, Vector.get_eq_getElem, Fin.exists_iff]

/-- R146: an entry in range and a configured area, both longer than 0, share no byte exactly when one of them ends
before the other begins. -/
theorem not_journalMeetsArea_iff {r : Region} (hr : 1 ≤ r.length) (base slots : Nat) :
    ¬ JournalMeetsArea base slots r ↔ (r.mode = .journal →
      (r.base + r.length) * 1024 ≤ base * 1024 ∨ base * 1024 + 128 + 44 * slots ≤ r.base * 1024) := by
  unfold JournalMeetsArea
  rw [not_and]
  refine imp_congr_right fun _ => ?_
  omega

/-- R43: ARM's tests over the area and the table in range. -/
theorem armTest_iff {s : State} (h : BlockLaws s) : armTest s = true ↔
    s.engine.slots ≠ 0 ∧ s.engine.base * 1024 + 128 + 44 * s.engine.slots ≤ 1048576 ∧
      ∀ i : Fin 8, (s.regions.entries.get i).mode = .journal →
        ((s.regions.entries.get i).base + (s.regions.entries.get i).length) * 1024 ≤ s.engine.base * 1024 ∨
          s.engine.base * 1024 + 128 + 44 * s.engine.slots ≤ (s.regions.entries.get i).base * 1024 := by
  obtain ⟨-, ranges, hbase, hslots, -⟩ := h
  have length (i : Fin 8) : 1 ≤ (s.regions.entries.get i).length := by
    obtain ⟨-, hpos, -⟩ := ranges i
    exact hpos
  simp only [armTest, hbase, hslots, Bool.and_eq_true, decide_eq_true_eq, areaFits_iff, and_assoc,
    Bool.not_eq_true']
  refine and_congr_right fun configured => and_congr_right fun _ => ?_
  rw [Bool.eq_false_iff, Ne, tableOverlaps_iff, not_exists]
  refine forall_congr' fun i => ?_
  rw [overlapsArea_iff configured, not_journalMeetsArea_iff (length i)]

theorem blockLaws_frameBegun {s : State} (h : BlockLaws s) : BlockLaws (frameBegun s) := by
  obtain ⟨-, engine, -, regions, -, -, records, -⟩ := frameBegun_frame s
  simpa only [BlockLaws, engine, regions, records] using h

section
variable {s : State} {crc : Byte}

/-- R35: ARM, RESUME and SET AREA are taken in OFF. -/
theorem gated_frameBegun_off {code : Byte} {act : State → State} (hm : s.engine.mode = .off) :
    gated code (· == .off) act (frameBegun s) = act (frameBegun s) :=
  gated_frameBegun (by rw [hm]; rfl) (by rw [hm]; rfl)

theorem exec_arm_off (h : Taken (.arm crc) s) (hm : s.engine.mode = .off) :
    exec (.arm crc) s = .next (if armTest (frameBegun s) then accepted 0x20#8 beginArm (frameBegun s)
      else respond 0x20#8 .range [] (frameBegun s)) := by
  simp only [exec, execArm, takeFrame_of_taken h rfl, takeArm, gated_frameBegun_off hm]

theorem exec_resume_off {option : Byte} (h : Taken (.resume option crc) s) (hm : s.engine.mode = .off) :
    exec (.resume option crc) s = .next (if option.toNat ≤ 1
      then accepted 0x26#8 (beginResume (option == 1#8)) (frameBegun s)
      else respond 0x26#8 .range [] (frameBegun s)) := by
  simp only [exec, execResume, takeFrame_of_taken h rfl, takeResume, gated_frameBegun_off hm]

end

theorem armTaken : Claims.ArmTaken := by
  intro s crc htaken hm hb start finish passes
  obtain ⟨-, engine, -, regions, -⟩ := frameBegun_frame s
  have test : armTest (frameBegun s) = true ↔ passes := by
    rw [armTest_iff (blockLaws_frameBegun hb), engine, regions]
  have begun : beginArm (frameBegun s) = reclassifyWaiting { frameBegun s with engine := { s.engine with
      mode := .arming (.readHeads []), fill := 0, stack := [base] } } := by
    rw [← engine]
    rfl
  rw [exec_arm_off htaken hm]
  refine ⟨fun h => ?_, fun h => ?_⟩
  · rw [if_neg (mt test.1 h)]
    rfl
  · rw [if_pos (test.2 h), accepted, begun]
    rfl

theorem resumeTaken : Claims.ResumeTaken := by
  intro s option crc htaken hm
  obtain ⟨-, engine, -⟩ := frameBegun_frame s
  have auto : (option == 1#8) = (option.toNat == 1) := by
    rw [Bool.eq_iff_iff, beq_iff_eq, beq_iff_eq]
    exact BitVec.toNat_inj.symm
  have begun (a : Bool) : beginResume a (frameBegun s) = reclassifyWaiting { frameBegun s with
      engine := { s.engine with mode := .scanning a 1 (.heads []), fill := 0, stack := [base]
                                resumeOutcome := .none, resumeStop := .none } } := by
    rw [← engine]
    rfl
  rw [exec_resume_off htaken hm]
  refine ⟨fun h => ?_, fun h => ?_⟩
  · rw [if_neg (Nat.not_le.2 h)]
    rfl
  · rw [if_pos h, accepted, begun, auto]
    rfl

end Sys2Proof.Machine

open Sys2Proof Sys2Proof.Machine

/-- Settles O55: ARM by its tests in terms of the area's bytes, RESUME by its option. -/
theorem armAndResumeTaken : Obligations.ArmAndResumeTaken := ⟨armTaken, resumeTaken⟩
end


section
/-! PROOFS. SET OPTIONS (R40, R41, R180, R181, R189). -/

namespace Sys2Proof.Machine

open Sys2Proof.Safety

/-- R180: a select above 15, or a selected field outside its values. -/
def OptionsOutside (select policy : Byte) (highMark : Half) (enables : Byte) : Prop :=
  16 ≤ select.toNat ∨ (select.getLsbD 1 = true ∧ 2 ≤ policy.toNat) ∨
    (select.getLsbD 2 = true ∧ 8193 ≤ highMark.toNat) ∨ (select.getLsbD 3 = true ∧ 4 ≤ enables.toNat)

/-- A field that is within its values wherever it is selected. -/
theorem not_selected_or_le (b : Bool) (n m : Nat) :
    (!b || decide (n ≤ m)) = true ↔ ¬ (b = true ∧ m + 1 ≤ n) := by
  cases b <;> simp

/-- R180: the range tests of SET OPTIONS. -/
theorem optionsInRange_iff (select policy : Byte) (highMark : Half) (enables : Byte) :
    optionsInRange select policy highMark enables = true ↔ ¬ OptionsOutside select policy highMark enables := by
  simp only [optionsInRange, OptionsOutside, optionBit, Bool.and_eq_true, not_selected_or_le, decide_eq_true_eq, not_or,
    and_assoc]
  refine and_congr_left fun _ => ?_
  omega

/-- R189: the four options as the link carries them. -/
theorem optionBytes_eq (s : State) : optionBytes s
    = [s.host.holdLimit, if s.engine.policy = .refuse then 0x00#8 else 0x01#8] ++ twoBytes s.engine.highMark
      ++ [BitVec.ofNat 8 ((if s.engine.markEnable then 1 else 0) + (if s.engine.undoEnable then 2 else 0))] := by
  have policy (p : Policy) : policyByte p = if p = .refuse then 0x00#8 else 0x01#8 := by cases p <;> rfl
  rw [optionBytes, policy, beBytes_half, lineBits_eq]

/-- R180: the fields written over a policy. -/
def optionsWritten (select holdLimit : Byte) (highMark : Half) (enables : Byte) (p : Policy) (s : State) : State :=
  renew { s with
    host := { s.host with holdLimit := if select.getLsbD 0 then holdLimit else s.host.holdLimit }
    engine := { s.engine with
      policy := p
      highMark := if select.getLsbD 2 then highMark.toNat else s.engine.highMark
      markEnable := if select.getLsbD 3 then enables.getLsbD 0 else s.engine.markEnable
      undoEnable := if select.getLsbD 3 then enables.getLsbD 1 else s.engine.undoEnable } }

/-- R180: the command's answer with the four options after it. -/
def optionsAnswered (st : Status) (s : State) : State := respond 0x13#8 st (optionBytes s) s

section Taken
variable {select holdLimit policy : Byte} {highMark : Half} {enables : Byte} {s : State}

/-- R180, step 1: a rejected command changes nothing. -/
theorem takeOptions_outside (h : OptionsOutside select policy highMark enables) :
    takeOptions select holdLimit policy highMark enables s = optionsAnswered .range s := by
  have rejected : ¬ optionsInRange select policy highMark enables = true := by
    rw [optionsInRange_iff]
    exact not_not.2 h
  rw [takeOptions, if_pos rejected, optionsAnswered]

/-- R180, steps 2 and 3: within range the fields are written, and a selected policy decides the answer. -/
theorem takeOptions_inside (h : ¬ OptionsOutside select policy highMark enables) :
    takeOptions select holdLimit policy highMark enables s
      = if select.getLsbD 1 = true ∧ policyOf policy ≠ s.engine.policy then
          if s.engine.mode.name.resting then
            optionsAnswered .ok (optionsWritten select holdLimit highMark enables (policyOf policy) s)
          else optionsAnswered .busy (optionsWritten select holdLimit highMark enables s.engine.policy s)
        else optionsAnswered .ok (optionsWritten select holdLimit highMark enables s.engine.policy s) := by
  rw [takeOptions, if_neg (not_not.2 ((optionsInRange_iff _ _ _ _).2 h))]
  rfl

end Taken

end Sys2Proof.Machine

open Sys2Proof Sys2Proof.Machine Sys2Proof.Safety

/-- Settles O53: the range test, the test of a policy change while an operation runs, and the fields written. -/
theorem setOptionsTaken : Obligations.SetOptionsTaken := by
  intro s select hold policy high enables crc htaken u bit outside asked changes busy answer written
  obtain ⟨-, engine, -, -, host, -⟩ := frameBegun_frame s
  have fields (p : Policy) : optionsWritten select hold high enables p u = written p := by
    simp only [optionsWritten, written, u, engine, host]
    rfl
  have answers {st : Status} {x : State}
      (h : takeOptions select hold policy high enables u = optionsAnswered st x) : answer st x := by
    simp only [answer, exec, execSetOptions, takeFrame_of_taken htaken rfl]
    rw [h, optionsAnswered, respond_eq, optionBytes_eq]
  have kept : u.engine.policy = s.engine.policy := congrArg Engine.policy engine
  have resting : ¬ u.engine.mode.name.resting = true ↔ busy := by simp [u, busy]
  have change : (select.getLsbD 1 = true ∧ policyOf policy ≠ u.engine.policy) ↔ changes := by rw [kept]; rfl
  refine ⟨fun h => answers (takeOptions_outside h), fun h hc hb => ?_, fun h hc hb => ?_, fun h hc => ?_⟩
  · rw [← fields, ← kept]
    exact answers ((takeOptions_inside h).trans ((if_pos (change.2 hc)).trans (if_neg (resting.2 hb))))
  · rw [← fields]
    exact answers ((takeOptions_inside h).trans ((if_pos (change.2 hc)).trans (if_pos (not_not.1 (mt resting.1 hb)))))
  · rw [← fields, ← kept]
    exact answers ((takeOptions_inside h).trans (if_neg (mt change.1 hc)))
end


section
/-! PROOFS. The table of R35: where a state-changing command is answered BUSY or STATE. -/

namespace Sys2Proof.Machine

open Sys2Proof.Safety

/-- R189: the commands of the table have codes of the link. -/
theorem operationCodes_subset : operationCodes ⊆ knownCodes := by decide

section
variable {i : Instr} {s : State}

/-- R35, R177: what the table answers a command that it does not take, by the command's code. -/
def TableAnswers (i : Instr) (s : State) : Prop :=
  let code := codeOf (commandBytes i)
  (s.engine.mode.name.resting = false → exec i s = .next (replied code .busy [] (frameBegun s))) ∧
  (s.engine.mode.name.resting = true → takenIn code s.engine.fill s.engine.mode.name = false →
    exec i s = .next (replied code .state [] (frameBegun s)))

/-- R35, R177: a command behind the state test is answered by the table. -/
theorem tableAnswers_of_gated {taken : StateName → Bool} {act : State → State}
    (he : exec i s = .next (gated (codeOf (commandBytes i)) taken act (frameBegun s)))
    (ht : taken s.engine.mode.name = takenIn (codeOf (commandBytes i)) s.engine.fill s.engine.mode.name) :
    TableAnswers i s := by
  obtain ⟨-, engine, -⟩ := frameBegun_frame s
  refine ⟨fun busy => ?_, fun rests out => ?_⟩
  · rw [he, gated_busy _ _ _ _ (by rwa [engine]), respond_eq]
  · rw [he, gated_state _ _ _ _ (by rwa [engine]) (by rwa [engine, ht]), respond_eq]

variable {crc : Byte}

theorem arm_tableAnswers (h : Taken (.arm crc) s) : TableAnswers (.arm crc) s :=
  tableAnswers_of_gated (by rw [exec, execArm, takeFrame_of_taken h rfl]; rfl) rfl

theorem mark_tableAnswers {label : Half} (h : Taken (.mark label crc) s) : TableAnswers (.mark label crc) s :=
  tableAnswers_of_gated (by rw [exec, execMark, takeFrame_of_taken h rfl]; rfl) rfl

theorem release_tableAnswers (h : Taken (.release crc) s) : TableAnswers (.release crc) s :=
  tableAnswers_of_gated (by rw [exec, execRelease, takeFrame_of_taken h rfl]; rfl) rfl

theorem undo_tableAnswers {option : Byte} (h : Taken (.undo option crc) s) : TableAnswers (.undo option crc) s :=
  tableAnswers_of_gated (by rw [exec, execUndo, takeFrame_of_taken h rfl]; rfl) rfl

theorem commit_tableAnswers (h : Taken (.commit crc) s) : TableAnswers (.commit crc) s :=
  tableAnswers_of_gated (by rw [exec, execCommit, takeFrame_of_taken h rfl]; rfl) rfl

theorem resume_tableAnswers {option : Byte} (h : Taken (.resume option crc) s) :
    TableAnswers (.resume option crc) s :=
  tableAnswers_of_gated (by rw [exec, execResume, takeFrame_of_taken h rfl]; rfl) rfl

theorem setArea_tableAnswers {base slots : Half} (h : Taken (.setArea base slots crc) s) :
    TableAnswers (.setArea base slots crc) s :=
  tableAnswers_of_gated (by rw [exec, execSetArea, takeFrame_of_taken h rfl]; rfl) rfl

/-- R147: WRITE REGION is taken by fill too, which a frame leaves alone. -/
theorem writeRegion_tableAnswers {index mode : Byte} {base length : Half}
    (h : Taken (.writeRegion index mode base length crc) s) :
    TableAnswers (.writeRegion index mode base length crc) s := by
  obtain ⟨-, engine, -⟩ := frameBegun_frame s
  refine tableAnswers_of_gated (taken := regionStates s.engine.fill) (act := regionTested index mode base length) ?_ rfl
  rw [exec, execWriteRegion, takeFrame_of_taken h rfl, takeWriteRegion, engine]
  rfl

/-- R99: outside UNDOING a DISARM is behind the state test. -/
theorem disarm_tableAnswers (h : Taken (.disarm crc) s) (hm : ∀ u, s.engine.mode ≠ .undoing u) :
    TableAnswers (.disarm crc) s := by
  obtain ⟨-, engine, -⟩ := frameBegun_frame s
  refine tableAnswers_of_gated (taken := restsArmed) (act := accepted 0x21#8 beginDisarm) ?_ rfl
  rw [exec, execDisarm, takeFrame_of_taken h rfl, takeDisarm_of_not_undoing (by rwa [engine])]
  rfl

/-- R89: a second DISARM in an undo is answered BUSY. -/
theorem exec_disarm_again (h : Taken (.disarm crc) s) (hd : disarmTaken s.engine.mode = true) :
    exec (.disarm crc) s = .next (replied 0x21#8 .busy [] (frameBegun s)) := by
  obtain ⟨-, engine, -⟩ := frameBegun_frame s
  cases hm : s.engine.mode with
  | undoing u =>
    rw [hm] at hd
    have disarmed : u.disarm = true := hd
    simp only [exec, execDisarm, takeFrame_of_taken h rfl, takeDisarm, engine, hm, disarmUndo, disarmed, if_true,
      respond_eq]
  | _ => rw [hm] at hd; cases hd

end

end Sys2Proof.Machine

open Sys2Proof Sys2Proof.Machine Sys2Proof.Safety

/-- Settles O54: the table command by command, and DISARM in UNDOING by whether one has been taken. -/
theorem stateTableOfCommands : Obligations.StateTableOfCommands := by
  intro i s hwf htaken code n hcode
  have of_table (h : TableAnswers i s) :
      (n.resting = false → (code ≠ 0x21#8 ∨ n ≠ .undoing ∨ disarmTaken s.engine.mode = true) →
        exec i s = .next (replied code .busy [] (frameBegun s))) ∧
      (n.resting = true → takenIn code s.engine.fill n = false →
        exec i s = .next (replied code .state [] (frameBegun s))) := ⟨fun busy _ => h.1 busy, h.2⟩
  cases i with
  | arm crc => exact of_table (arm_tableAnswers htaken)
  | mark label crc => exact of_table (mark_tableAnswers htaken)
  | release crc => exact of_table (release_tableAnswers htaken)
  | undo option crc => exact of_table (undo_tableAnswers htaken)
  | commit crc => exact of_table (commit_tableAnswers htaken)
  | resume option crc => exact of_table (resume_tableAnswers htaken)
  | setArea base slots crc => exact of_table (setArea_tableAnswers htaken)
  | writeRegion index mode base length crc => exact of_table (writeRegion_tableAnswers htaken)
  | disarm crc =>
    by_cases hm : ∃ u, s.engine.mode = .undoing u
    · obtain ⟨u, hm⟩ := hm
      have undoing : n = .undoing := by simp only [n, hm]; rfl
      refine ⟨fun _ hfirst => exec_disarm_again htaken ?_, fun hrests => ?_⟩
      · rcases hfirst with h | h | h
        · exact absurd rfl h
        · exact absurd undoing h
        · exact h
      · rw [undoing] at hrests
        cases hrests
    · exact of_table (disarm_tableAnswers htaken (not_exists.1 hm))
  | unknownCommand c next =>
    have unknown : c ∉ knownCodes := by simpa [Instr.wellFormed] using hwf
    exact absurd (operationCodes_subset hcode) unknown
  | _ => exact absurd (decide_eq_true hcode) Bool.false_ne_true
end


section
/-! PROOFS. The link's framing: short, cut and unknown frames, a link that ignores, SDO, and the bits of a frame (R169,
R172, R173, R175, R176, R186). -/

namespace Sys2Proof.Machine

open Sys2Proof.Safety

/-! ## The steps of the framing -/

theorem listening_of_running {s : State} (hp : s.power = .running) (hi : s.link.ignoring = false) :
    listening s = true := by simp [listening, hp, hi]

theorem listening_eq_false {s : State} (h : s.power ≠ .running ∨ s.link.ignoring = true) : listening s = false := by
  rcases h with h | h <;> simp [listening, h]

/-- R173, R176: the two ends of a frame at a link that listens. -/
theorem exec_frameEnd {s : State} (h : listening s = true) :
    exec .linkShortFrame s = .next (raise .linkError (frameEnded s)) ∧
    exec .linkFrameCut s = .next (frameEnded s) := by
  simp only [exec, execLinkShortFrame, execLinkFrameCut, h, if_true, closeFrame_eq, and_self]

/-- R175: an unknown code is answered whatever byte follows it. -/
theorem exec_unknownCommand {s : State} (h : listening s = true) {code : Byte} (hc : code ∉ knownCodes)
    (next : Byte) : exec (.unknownCommand code next) s
      = .next (replied code .unknown [] (raise .linkError (frameBegun s))) := by
  simp only [exec, execUnknownCommand, if_neg hc, answerUnknown, h, if_true, openFrame_eq, respond_eq]

/-- R186: the first rise of nSS ends the ignoring state, and no other does anything. -/
theorem exec_nssRise {s : State} (hp : s.power = .running) : exec .nssRiseAfterRelease s
    = .next (if s.link.ignoring then { s with link := { s.link with selected := false, ignoring := false } }
      else s) := by
  simp only [exec, execNssRiseAfterRelease, hp, true_and]

theorem framingSteps : Claims.FramingSteps := by
  intro s hp
  refine ⟨fun hi => ?_, fun hi => ?_, fun hi => ?_⟩
  · have hl := listening_of_running hp hi
    exact ⟨(exec_frameEnd hl).1, (exec_frameEnd hl).2, fun code next hc => exec_unknownCommand hl hc next⟩
  · rw [exec_nssRise hp, hi]
    rfl
  · rw [exec_nssRise hp, hi]
    rfl

theorem linkIgnoresFrames : Claims.LinkIgnoresFrames := by
  intro i s hwf hi hdeaf
  have silent := listening_eq_false hdeaf
  rcases hi with sent | rfl | rfl
  · obtain ⟨c, hc⟩ := crcByte_of_frameBytes sent
    exact exec_deaf silent (by simp [hc]) hwf
  · exact (exec_frameEnd_deaf silent).1
  · exact (exec_frameEnd_deaf silent).2

/-! ## SDO -/

/-- R169: the bits of a byte in the order sent. -/
theorem getMsbD_byte (b : Byte) (n : Nat) : b.getMsbD (n % 8) = b.getLsbD (7 - n % 8) := by
  have position : n % 8 < 8 := Nat.mod_lt _ (by omega)
  simp [BitVec.getMsbD, position]

/-- R169: SDO at a listening link in a frame. -/
theorem sdo_of_selected {s : State} (h : listening s = true) (hs : s.link.selected = true) (n : Nat) :
    s.sdo n = some ((s.link.sdoByte (n / 8)).getLsbD (7 - n % 8)) := by
  simp only [State.sdo, h, hs, getMsbD_byte, Bool.and_true, if_true]

theorem sdoLevel : Claims.SdoLevel := by
  intro s n
  refine ⟨fun h => ?_, fun hp hs hi => ?_⟩
  · have silent : (listening s && s.link.selected) = false := by
      rcases h with h | h | h <;> simp [listening, h]
    simp only [State.sdo, silent, Bool.false_eq_true, if_false]
  · rw [sdo_of_selected (listening_of_running hp hi) hs]
    refine ⟨fun hf => ?_, fun f hf => ⟨fun b hb => ?_, fun hn => ?_⟩⟩
    · simp [Link.sdoByte, hf]
    · simp only [Link.sdoByte, hf, Frame.sdoByte, List.getD_eq_getElem?_getD, hb, Option.getD_some]
    · have ones : (0xFF#8).getLsbD (7 - n % 8) = true := by
        have position : n % 8 < 8 := Nat.mod_lt _ (by omega)
        interval_cases n % 8 <;> rfl
      simp only [Link.sdoByte, hf, Frame.sdoByte, List.getD_eq_default _ _ hn, ones]

/-! ## The bits of a frame -/

/-- R169: eight bits of each byte are sampled back into the bytes. -/
theorem bytesOfBits_flatMap (bytes : List Byte) : bytesOfBits (bytes.flatMap byteBits) = bytes := by
  induction bytes with
  | nil => rfl
  | cons b bytes ih => rw [List.flatMap_cons, bytesOfBits_byteBits_append, ih]

theorem length_flatMap_byteBits (bytes : List Byte) : (bytes.flatMap byteBits).length = 8 * bytes.length := by
  induction bytes with
  | nil => rfl
  | cons b bytes ih =>
    rw [List.flatMap_cons, List.length_append, ih, List.length_cons, byteBits, List.length_map, List.length_range]
    omega

/-- R169: the wires after bits sent on an open frame: each is sampled once, and SDO shows the last one's position. -/
theorem clockAll_bits (bits : List Bool) (w : Wire) (h : w.selected = true)
    (hs : w.sck = false → w.shown = w.sampled.length) :
    let t := w.clockAll (bits.flatMap fun b => [(false, b), (true, b)])
    t.sampled = w.sampled ++ bits ∧ t.selected = true ∧
      t.shown = if bits = [] then w.shown else w.sampled.length + bits.length - 1 := by
  induction bits generalizing w with
  | nil => exact ⟨(List.append_nil _).symm, h, rfl⟩
  | cons b bits ih =>
    have first : w.clockAll ((b :: bits).flatMap fun b => [(false, b), (true, b)])
        = Wire.clockAll { w with sck := true, sampled := w.sampled ++ [b], shown := w.sampled.length }
          (bits.flatMap fun b => [(false, b), (true, b)]) := by
      rw [← clock_bit_sampled w b h hs]
      rfl
    obtain ⟨sampled, selected, shown⟩ :=
      ih { w with sck := true, sampled := w.sampled ++ [b], shown := w.sampled.length } h nofun
    rw [first]
    refine ⟨sampled.trans (by simp), selected, shown.trans ?_⟩
    cases bits with
    | nil => simp
    | cons c bits =>
      simp only [reduceCtorEq, if_false, List.length_append, List.length_cons, List.length_nil]
      omega

/-- R169: the fall of nSS. -/
theorem setNss_fall {w : Wire} (h : w.selected = false) :
    w.setNss true = { w with selected := true, sampled := [], shown := 0 } := by
  simp [Wire.setNss, h]

theorem bitsOfAFrame : Claims.BitsOfAFrame := by
  intro w h
  rw [setNss_fall h]
  refine ⟨fun bytes => ?_, fun sdi hk => ⟨?_, ?_⟩, fun level sdi => ?_⟩
  · have sent := clockAll_bits (bytes.flatMap byteBits) { w with selected := true, sampled := [], shown := 0 } rfl
      fun _ => rfl
    obtain ⟨sampled, selected, shown⟩ := sent
    have length := length_flatMap_byteBits bytes
    refine ⟨?_, ?_, selected, shown.trans ?_⟩
    · rw [Wire.bytes, sendBytes, sampled, List.nil_append, bytesOfBits_flatMap]
    · rw [sendBytes, sampled, List.nil_append, length]
    · rw [length]
      dsimp only
      split
      · rename_i hnil
        rw [hnil] at length
        simp only [List.length_nil] at length
        omega
      · simp
  · simp [Wire.clock, hk]
  · simp [Wire.clock, hk]
  · simp [Wire.clock, h]

end Sys2Proof.Machine

open Sys2Proof Sys2Proof.Machine

/-- Settles O45: the framing's steps, the deaf link, SDO by the frame's bytes, and the clocked bits by induction. -/
theorem linkFraming : Obligations.LinkFraming := ⟨framingSteps, linkIgnoresFrames, sdoLevel, bitsOfAFrame⟩
end
